-- ==== Sys2Proof/Word.lean ====
section
/-! DEFINITION. The two word widths of the block: 32-bit registers and bus data (R53, R120), 8-bit
buffer bytes (R67). -/

namespace Sys2Proof

/-- A register or one word of bus data (R53, R120). -/
abbrev Word := BitVec 32

/-- A buffer byte, read as a GF(2^8) element where it is one (R16, R67). -/
abbrev Byte := BitVec 8

end Sys2Proof
end

