-- ==== Sys2Proof/Config.lean ====
section
/-! DEFINITION. What one implementation fixes: the shape of the table parameter `QrTables` (R7, R8),
the base of the window (R131), and the free values that the spec calls draws (R124,
93_implementation_defined.md U1, U2). The values of `QrTables` stand in Machine/Tables.lean. -/

namespace Sys2Proof

/-- The four ECC levels (R8, R58). -/
inductive EccLevel where
  | l | m | q | h
  deriving DecidableEq, Repr

/-- The named configuration parameter of R7 and R8: the capacity, alignment, mask and penalty tables. -/
structure QrTables where
  /-- blocks and ECC codewords per block, by version and level (R252) -/
  capacity : Nat → EccLevel → Nat × Nat
  /-- alignment centres, by version (R314) -/
  alignment : Nat → List Nat
  /-- `mask k r c` (R380) -/
  mask : Nat → Nat → Nat → Bool
  /-- what a run of exactly `runLength` modules adds (R383) -/
  runWeight : Nat
  /-- the shortest run that counts (R383) -/
  runLength : Nat
  /-- what a uniform 2x2 window adds (R384) -/
  blockWeight : Nat
  /-- the finder-like window `A` of R385, dark as true -/
  finderLike : List Bool
  /-- what one occurrence of `A` or of its reverse adds (R385) -/
  finderWeight : Nat
  /-- what one counted 5 % step of imbalance adds (R386) -/
  balanceWeight : Nat

/-- CORE_BASE: where the window sits in the host's address space (R131, U10). Left to the platform. -/
opaque Config.coreBase : Nat

/-- FREE VALUE: the word the `i`-th draw gives to a host read while Busy (R124, U2). -/
opaque Config.drawWord : Nat → Word

/-- FREE VALUE: the byte the `i`-th draw gives to a host read of an unwritten buffer byte (R68, U1). -/
opaque Config.drawByte : Nat → Byte

end Sys2Proof
end

