-- ==== Sys2Proof/Syntax.lean ====
section
/-! DEFINITION. The commands: one constructor per row of opcode_table.json (R165), and the raw fields of
the one command format (R160). -/

namespace Sys2Proof

/-- A command of R165. `k` is the mask index K of R160, a 3-bit unsigned field. -/
inductive Instr where
  | nop
  | gfmul
  | polyeval
  | rsgen
  | rsrem
  | syndrome
  | capq
  | interleave
  | gridinit
  | stampFinder
  | stampSep
  | stampTiming
  | stampAlign
  | reserveFmt
  | reserveVer
  | stampAll
  | place
  | maskapply (k : BitVec 3)
  | score (k : BitVec 3)
  | select
  | fmtenc (k : BitVec 3)
  | fmtwrite (k : BitVec 3)
  | verenc
  | verwrite
  | finalize
  | encode
  deriving DecidableEq, Repr

/-- The fields of a command word (R160): OP [7:0], K [10:8], RSV [31:11]. -/
structure CmdFields where
  op : BitVec 8
  k : BitVec 3
  rsv : BitVec 21
  deriving DecidableEq, Repr

end Sys2Proof
end

