-- ==== Sys2Proof/WellFormed.lean ====
section
/-! DEFINITION. When the fields of a command word are well-formed: the three conditions of R162. Every
term of `Instr` is well-formed by its type (K is three bits wide), so the checks are on raw fields. -/

namespace Sys2Proof

/-- The opcodes of R165 whose command takes no K. -/
def plainOpcodes : List (BitVec 8) :=
  [0x00, 0x01, 0x02, 0x03, 0x04, 0x05, 0x08, 0x09] ++
  [0x10, 0x11, 0x12, 0x13, 0x14, 0x15, 0x16, 0x17, 0x18] ++
  [0x22, 0x25, 0x26, 0x27, 0x30]

/-- The opcodes of R165 whose command takes K. -/
def maskOpcodes : List (BitVec 8) := [0x20, 0x21, 0x23, 0x24]

/-- R162, first condition: bits [31:11] are 0. -/
def CmdFields.reservedClear (f : CmdFields) : Bool := f.rsv == 0

/-- R162, second condition: OP is an opcode of R165. -/
def CmdFields.opcodeListed (f : CmdFields) : Bool :=
  plainOpcodes.contains f.op || maskOpcodes.contains f.op

/-- R162, third condition: K is 0 unless the opcode takes it. -/
def CmdFields.maskIndexAllowed (f : CmdFields) : Bool :=
  f.k == 0 || maskOpcodes.contains f.op

/-- The fields of a legal command word (R162). -/
def CmdFields.wf (f : CmdFields) : Bool :=
  f.reservedClear && f.opcodeListed && f.maskIndexAllowed

end Sys2Proof
end

