-- ==== Sys2Proof/Decode.lean ====
section
/-! DEFINITION. The decoder of a command word, total on every word and rejecting by name (R160 to R163,
R167), and after it the encoder from the same map (R165), and the match and mask of each row (R166). -/

namespace Sys2Proof

/-- Why a word is illegal: the three conditions of R162. -/
inductive DecodeError where
  /-- some bit of [31:11] is 1 -/
  | reservedBits
  /-- OP is not in R165 -/
  | reservedOpcode
  /-- K is not 0 on an opcode without K -/
  | strayMaskIndex
  deriving DecidableEq, Repr

/-- The fields of a word (R160). -/
def splitWord (w : Word) : CmdFields :=
  { op := w.extractLsb' 0 8, k := w.extractLsb' 8 3, rsv := w.extractLsb' 11 21 }

/-- The word that holds the fields (R160). -/
def joinWord (f : CmdFields) : Word := f.rsv ++ f.k ++ f.op

/-- The commands without K (R165). -/
def plainCommand (op : BitVec 8) : Option Instr :=
  match op.toNat with
  | 0x00 => some .nop
  | 0x01 => some .gfmul
  | 0x02 => some .polyeval
  | 0x03 => some .rsgen
  | 0x04 => some .rsrem
  | 0x05 => some .syndrome
  | 0x08 => some .capq
  | 0x09 => some .interleave
  | 0x10 => some .gridinit
  | 0x11 => some .stampFinder
  | 0x12 => some .stampSep
  | 0x13 => some .stampTiming
  | 0x14 => some .stampAlign
  | 0x15 => some .reserveFmt
  | 0x16 => some .reserveVer
  | 0x17 => some .stampAll
  | 0x18 => some .place
  | 0x22 => some .select
  | 0x25 => some .verenc
  | 0x26 => some .verwrite
  | 0x27 => some .finalize
  | 0x30 => some .encode
  | _ => none

/-- The commands with K (R165). -/
def maskCommand (op : BitVec 8) (k : BitVec 3) : Option Instr :=
  match op.toNat with
  | 0x20 => some (.maskapply k)
  | 0x21 => some (.score k)
  | 0x23 => some (.fmtenc k)
  | 0x24 => some (.fmtwrite k)
  | _ => none

/-- Decoding from fields (R162). -/
def decodeFields (f : CmdFields) : Except DecodeError Instr :=
  if f.rsv ≠ 0 then .error .reservedBits
  else match maskCommand f.op f.k with
    | some i => .ok i
    | none =>
      match plainCommand f.op with
      | none => .error .reservedOpcode
      | some i => if f.k ≠ 0 then .error .strayMaskIndex else .ok i

/-- The decoder (R162): every word is a command or is illegal for a named reason. -/
def decode (w : Word) : Except DecodeError Instr := decodeFields (splitWord w)

/-- OP of each command (R165). -/
def opcode : Instr → BitVec 8
  | .nop => 0x00
  | .gfmul => 0x01
  | .polyeval => 0x02
  | .rsgen => 0x03
  | .rsrem => 0x04
  | .syndrome => 0x05
  | .capq => 0x08
  | .interleave => 0x09
  | .gridinit => 0x10
  | .stampFinder => 0x11
  | .stampSep => 0x12
  | .stampTiming => 0x13
  | .stampAlign => 0x14
  | .reserveFmt => 0x15
  | .reserveVer => 0x16
  | .stampAll => 0x17
  | .place => 0x18
  | .maskapply _ => 0x20
  | .score _ => 0x21
  | .select => 0x22
  | .fmtenc _ => 0x23
  | .fmtwrite _ => 0x24
  | .verenc => 0x25
  | .verwrite => 0x26
  | .finalize => 0x27
  | .encode => 0x30

/-- K of each command: 0 where it takes none (R160). -/
def maskIndex : Instr → BitVec 3
  | .maskapply k => k
  | .score k => k
  | .fmtenc k => k
  | .fmtwrite k => k
  | .nop => 0
  | .gfmul => 0
  | .polyeval => 0
  | .rsgen => 0
  | .rsrem => 0
  | .syndrome => 0
  | .capq => 0
  | .interleave => 0
  | .gridinit => 0
  | .stampFinder => 0
  | .stampSep => 0
  | .stampTiming => 0
  | .stampAlign => 0
  | .reserveFmt => 0
  | .reserveVer => 0
  | .stampAll => 0
  | .place => 0
  | .select => 0
  | .verenc => 0
  | .verwrite => 0
  | .finalize => 0
  | .encode => 0

/-- The fields of a command (R160). -/
def encodeFields (i : Instr) : CmdFields := { op := opcode i, k := maskIndex i, rsv := 0 }

/-- The encoder: `(k << 8) | OP` (R160, R168). -/
def encode (i : Instr) : Word := joinWord (encodeFields i)

/-- Every instruction stands for well-formed fields; stated so that claims can say "well-formed". -/
def Instr.wf (i : Instr) : Bool := (encodeFields i).wf

/-- One row of R166: word `w` selects it when `w &&& mask = match`. -/
structure Row where
  pattern : Word
  mask : Word
  deriving DecidableEq, Repr

/-- Row of a command without K (R166). -/
def plainRow (op : Word) : Row := { pattern := op, mask := 0xFFFFFFFF }

/-- Row of a command with K (R166). -/
def maskRow (op : Word) : Row := { pattern := op, mask := 0xFFFFF8FF }

/-- The match and mask of every row of the opcode table (R165, R166). -/
def opcodeRows : List Row :=
  [plainRow 0x00, plainRow 0x01, plainRow 0x02, plainRow 0x03, plainRow 0x04, plainRow 0x05] ++
  [plainRow 0x08, plainRow 0x09] ++
  [plainRow 0x10, plainRow 0x11, plainRow 0x12, plainRow 0x13, plainRow 0x14, plainRow 0x15] ++
  [plainRow 0x16, plainRow 0x17, plainRow 0x18] ++
  [maskRow 0x20, maskRow 0x21, plainRow 0x22, maskRow 0x23, maskRow 0x24, plainRow 0x25] ++
  [plainRow 0x26, plainRow 0x27, plainRow 0x30]

/-- Word `w` selects the row (R166). -/
def Row.selects (x : Row) (w : Word) : Bool := w &&& x.mask == x.pattern

/-- The decoder's answer on a table word of `nbits` bits; a command word is exactly 32 bits (R163), so
every bit above `nbits` is 0. -/
def decodeTableWord (nbits w : Nat) : Option Instr :=
  match decode (BitVec.ofNat 32 (w % 2 ^ nbits)) with
  | .ok i => some i
  | .error _ => none

end Sys2Proof
end

