-- ==== Sys2Proof/Machine/State.lean ====
section
/-! DEFINITION. The architectural state of the block (R50) as plain data, the moves of its environment
that are yet to come, the reasons a step can stop, and the state after reset (R550). -/

namespace Sys2Proof.Machine

/-- The engine (R73): idle, or busy with the latched command word (R60). STATUS.BUSY is this. -/
inductive Engine where
  | idle
  | busy (w : Word)
  deriving DecidableEq, Repr

/-- The stored bits of STATUS (R57). BUSY is the engine's state (R73); the other bits read as zero. -/
structure Status where
  done : Bool
  err : Bool
  errcode : BitVec 4
  overrun : Bool
  deriving DecidableEq, Repr

/-- The stored fields of CONFIG (R58). -/
structure SymConfig where
  version : BitVec 6
  ecl : EccLevel
  deriving DecidableEq, Repr

/-- GRIDSTAT (R59): the stage flags, bits 0 to 9, and GVER, bits [21:16]. -/
structure GridStat where
  valid : Bool
  sFinder : Bool
  sSep : Bool
  sTiming : Bool
  sAlign : Bool
  sFmt : Bool
  sVer : Bool
  placed : Bool
  sel : Bool
  final : Bool
  gver : BitVec 6
  deriving DecidableEq, Repr

/-- CAPSHORT (R64): [15:0] numShortBlocks, [31:16] shortBlockLen. -/
structure CapShort where
  numShort : BitVec 16
  shortLen : BitVec 16
  deriving DecidableEq, Repr

/-- A module tag (R14, R70). -/
inductive Tag where
  | unset
  | light
  | dark
  | reservedFormat
  | reservedVersion
  deriving DecidableEq, Repr

/-- One module of the grid: its tag and its function bit (R69, R71). -/
structure GridCell where
  tag : Tag
  fn : Bool
  deriving DecidableEq, Repr

/-- The written bytes of the four buffers (R67, R68), by byte address of the host window (R121),
addresses strictly rising. A byte that is not listed is unwritten. -/
abbrev Memory := List Host.Cell

/-- The modules of one grid row that are not Unset with function bit 0, by column, columns rising. -/
abbrev GridRow := List (Nat × GridCell)

/-- The rows of the grid (R69) that list a module, by row number, rows rising. -/
abbrev Grid := List (Nat × GridRow)

/-- One move of the block's environment (R567): what happens next. -/
inductive Move where
  /-- the host writes `value` at window address `addr` with an access of `width` bytes -/
  | write (width addr : Nat) (value : Word)
  /-- the host reads at window address `addr` with an access of `width` bytes -/
  | read (width addr : Nat)
  /-- the host polls STATUS until BUSY reads 0 (`wait`, R168) -/
  | wait
  /-- the engine has its turn: it completes the latched command, if there is one (R61) -/
  | engine
  /-- the platform asserts reset (R550) -/
  | reset
  deriving DecidableEq, Repr

/-- The block's state (R50), register by register, and below it the model's own fields. -/
structure State where
  /-- Idle, or Busy with the latched word (R73) -/
  engine : Engine
  /-- CMD 0x004: the last command word stored (R56) -/
  cmd : Word
  /-- STATUS 0x008 (R57) -/
  status : Status
  /-- CONFIG 0x00C (R58) -/
  config : SymConfig
  /-- OPA 0x010 -/
  opa : Word
  /-- OPB 0x014 -/
  opb : Word
  /-- OPC 0x018 -/
  opc : Word
  /-- RESULT 0x01C (R66) -/
  result : Word
  /-- DLEN 0x020 (R63) -/
  dlen : Word
  /-- CWLEN 0x024 (R63) -/
  cwlen : Word
  /-- GLEN 0x028, bits [8:0] (R62) -/
  glen : BitVec 9
  /-- GRIDSTAT 0x02C (R59) -/
  gridstat : GridStat
  /-- CAPBLK 0x030, bits [7:0] (R64) -/
  capblk : BitVec 8
  /-- CAPECC 0x034, bits [7:0] (R64) -/
  capecc : BitVec 8
  /-- CAPRAW 0x038, bits [15:0] (R64) -/
  capraw : BitVec 16
  /-- CAPDATA 0x03C, bits [15:0] (R64) -/
  capdata : BitVec 16
  /-- CAPSHORT 0x040 (R64) -/
  capshort : CapShort
  /-- MASKSEL 0x044, bits [2:0] (R65) -/
  masksel : BitVec 3
  /-- FMTBITS 0x048, bits [14:0] (R65) -/
  fmtbits : BitVec 15
  /-- VERBITS 0x04C, bits [17:0] (R65) -/
  verbits : BitVec 18
  /-- PEN0 to PEN7, 0x050 + 4k (R65) -/
  pen : Vector Word 8
  /-- DBUF, CWBUF, GPOLY, REMBUF with their written marks (R67, R68) -/
  mem : Memory
  /-- the symbol grid (R69) -/
  grid : Grid
  /-- MODEL: the environment's moves that are yet to come, next first (log 1) -/
  inputs : List Move
  /-- MODEL: what the host's last read returned (log 11) -/
  rdata : Option Word
  /-- MODEL: how many free values have been drawn (log 4) -/
  draws : Nat
  deriving DecidableEq, Repr

/-- Why the machine stops with a fault: the two model faults of R505. -/
inductive Fault where
  /-- A command would read a buffer byte that nothing has written since reset (R68, R505). Raised by
  POLYEVAL, RSREM, SYNDROME, INTERLEAVE, PLACE and ENCODE. Safe: the hardware goes on with an
  unspecified byte. -/
  | unwrittenBufferByte
  /-- A host access that is not an aligned 32-bit word of a mapped address (R126, R505). Raised by the
  host's moves, by no command. Safe: the block itself goes on unchanged. -/
  | busError
  deriving DecidableEq, Repr

/-- Why a command has no meaning. -/
inductive Refusal where
  /-- Raised by an arm of `exec` whose instruction has no meaning yet: none is left. Safe. -/
  | notModelled (mnemonic : String)
  deriving DecidableEq, Repr

/-- STATUS after reset (R57, R550). -/
def Status.reset : Status := { done := false, err := false, errcode := 0, overrun := false }

/-- GRIDSTAT after reset (R59, R550). -/
def GridStat.reset : GridStat :=
  { valid := false, sFinder := false, sSep := false, sTiming := false, sAlign := false,
    sFmt := false, sVer := false, placed := false, sel := false, final := false, gver := 0 }

/-- The block right after reset (R54, R550): every register at its listed value, the engine Idle, every
buffer byte unwritten, every module Unset with function bit 0. The environment has no move to make,
has read nothing, and nothing has been drawn (DESIGN CHOICE, log 1, 4, 11). -/
def State.reset : State :=
  { engine := .idle
    cmd := 0
    status := Status.reset
    config := { version := 0, ecl := .l }
    opa := 0
    opb := 0
    opc := 0
    result := 0
    dlen := 0
    cwlen := 0
    glen := 0
    gridstat := GridStat.reset
    capblk := 0
    capecc := 0
    capraw := 0
    capdata := 0
    capshort := { numShort := 0, shortLen := 0 }
    masksel := 0
    fmtbits := 0
    verbits := 0
    pen := #v[0, 0, 0, 0, 0, 0, 0, 0]
    mem := []
    grid := []
    inputs := []
    rdata := none
    draws := 0 }

end Sys2Proof.Machine
end

