-- ==== Sys2Proof/Machine/Store.lean ====
section
/-! DEFINITION. Sparse data by key: lists of (key, value) with keys strictly rising, and on them the read
and write of one buffer byte (R67, R68) and of one grid module (R69). -/

namespace Sys2Proof.Machine

/-- The value listed under `k`. -/
def Store.find {α : Type} : List (Nat × α) → Nat → Option α
  | [], _ => none
  | (j, a) :: l, k => if k = j then some a else if k < j then none else Store.find l k

/-- List `v` under `k`, keeping keys rising. -/
def Store.insert {α : Type} : List (Nat × α) → Nat → α → List (Nat × α)
  | [], k, v => [(k, v)]
  | (j, a) :: l, k, v =>
    if k = j then (k, v) :: l
    else if k < j then (k, v) :: (j, a) :: l
    else (j, a) :: Store.insert l k v

/-- List nothing under `k`. -/
def Store.erase {α : Type} : List (Nat × α) → Nat → List (Nat × α)
  | [], _ => []
  | (j, a) :: l, k =>
    if k = j then l else if k < j then (j, a) :: l else (j, a) :: Store.erase l k

/-- Keys strictly rise: the canonical form. -/
def Store.rising {α : Type} : List (Nat × α) → Bool
  | [] => true
  | [_] => true
  | (j, _) :: (k, b) :: l => decide (j < k) && Store.rising ((k, b) :: l)

/-- The byte at a window address, if it has been written (R68). -/
def Memory.read (m : Memory) (a : Nat) : Option Byte := Store.find m a

/-- Write one byte; it is a written byte from then on (R68). -/
def Memory.write (m : Memory) (a : Nat) (b : Byte) : Memory := Store.insert m a b

/-- The canonical form of memory: addresses strictly rising. An unlisted address reads as nothing, so
no entry equals what an unlisted address reads as. -/
def Memory.wf (m : Memory) : Bool := Store.rising m

/-- What an unlisted module is: Unset with function bit 0 (R550). -/
def GridCell.blank : GridCell := { tag := .unset, fn := false }

/-- The module in column `c` of a row. -/
def GridRow.read (row : GridRow) (c : Nat) : GridCell := (Store.find row c).getD GridCell.blank

/-- Replace the module in column `c` of a row. -/
def GridRow.write (row : GridRow) (c : Nat) (m : GridCell) : GridRow :=
  if m = GridCell.blank then Store.erase row c else Store.insert row c m

/-- The listed modules of row `r`. -/
def Grid.row (g : Grid) (r : Nat) : GridRow := (Store.find g r).getD []

/-- The module `(r, c)`: its tag `cell(r, c)` and its function bit `fn(r, c)` (R10, R69). -/
def Grid.read (g : Grid) (r c : Nat) : GridCell := (g.row r).read c

/-- Replace row `r`; a row that lists nothing is not listed. -/
def Grid.setRow (g : Grid) (r : Nat) (row : GridRow) : Grid :=
  if row = [] then Store.erase g r else Store.insert g r row

/-- Replace the module `(r, c)` (R10). -/
def Grid.write (g : Grid) (r c : Nat) (m : GridCell) : Grid :=
  g.setRow r ((g.row r).write c m)

/-- `cell(r, c) <- t`: the tag alone changes (R10). -/
def Grid.setTag (g : Grid) (r c : Nat) (t : Tag) : Grid :=
  g.write r c { g.read r c with tag := t }

/-- The canonical form of a row: columns rising, no blank module listed. -/
def GridRow.wf (row : GridRow) : Bool :=
  Store.rising row && row.all fun e => !decide (e.2 = GridCell.blank)

/-- The canonical form of a grid: rows rising, each row canonical and not empty. -/
def Grid.wf (g : Grid) : Bool :=
  Store.rising g && g.all fun e => GridRow.wf e.2 && !e.2.isEmpty

end Sys2Proof.Machine
end

