-- ==== Sys2Proof/Machine/Flags.lean ====
section
/-! DEFINITION. The flags and status fields of the block: the error codes (R501), STATUS and GRIDSTAT as
register words (R57, R59), and which stage flags a command requires (R303). -/

namespace Sys2Proof.Machine

/-- The error classes of R501 (code 0 is the absence of one). UNSUPPORTED is reserved: no command
raises it. -/
inductive ErrorCode where
  | range
  | capacity
  | unsupported
  | invariant
  | illegal
  | sequence
  deriving DecidableEq, Repr

/-- The code held in STATUS.ERRCODE (R501). -/
def ErrorCode.code : ErrorCode → BitVec 4
  | .range => 1
  | .capacity => 2
  | .unsupported => 3
  | .invariant => 4
  | .illegal => 5
  | .sequence => 6

/-- A flag as one bit at position `i` of a register word. -/
def flagAt (b : Bool) (i : Nat) : Word := if b then (1 : Word) <<< i else 0

/-- STATUS.BUSY: the engine is Busy (R73). -/
def State.isBusy (s : State) : Bool :=
  match s.engine with
  | .idle => false
  | .busy _ => true

/-- STATUS as a word (R57). -/
def State.statusWord (s : State) : Word :=
  flagAt s.isBusy 0 ||| flagAt s.status.done 1 ||| flagAt s.status.err 2 |||
  (s.status.errcode.setWidth 32 <<< 4) ||| flagAt s.status.overrun 8

/-- GRIDSTAT as a word (R59). -/
def GridStat.word (g : GridStat) : Word :=
  flagAt g.valid 0 ||| flagAt g.sFinder 1 ||| flagAt g.sSep 2 ||| flagAt g.sTiming 3 |||
  flagAt g.sAlign 4 ||| flagAt g.sFmt 5 ||| flagAt g.sVer 6 ||| flagAt g.placed 7 |||
  flagAt g.sel 8 ||| flagAt g.final 9 ||| (g.gver.setWidth 32 <<< 16)

/-- GRIDSTAT as GRIDINIT leaves it: VALID, GVER, every stage flag 0 (R301). -/
def GridStat.initial (gver : BitVec 6) : GridStat :=
  { GridStat.reset with valid := true, gver := gver }

/-- The requirement of STAMP_FINDER and STAMP_ALL (R303, R325). -/
def GridStat.readyFinder (g : GridStat) : Bool := g.valid

/-- The requirement of STAMP_SEP (R303). -/
def GridStat.readySep (g : GridStat) : Bool := g.readyFinder && g.sFinder

/-- The requirement of STAMP_TIMING (R303). -/
def GridStat.readyTiming (g : GridStat) : Bool := g.readySep && g.sSep

/-- The requirement of STAMP_ALIGN (R303). -/
def GridStat.readyAlign (g : GridStat) : Bool := g.readyTiming && g.sTiming

/-- The requirement of RESERVE_FMT (R303). -/
def GridStat.readyFmt (g : GridStat) : Bool := g.readyAlign && g.sAlign

/-- The requirement of RESERVE_VER (R303). -/
def GridStat.readyVer (g : GridStat) : Bool := g.readyFmt && g.sFmt

/-- Every stamp is done: the first requirement of PLACE (R354). -/
def GridStat.allStamped (g : GridStat) : Bool := g.readyVer && g.sVer

/-- The grid is placed: the requirement of MASKAPPLY, SCORE and SELECT (R381, R387, R388). -/
def GridStat.readyMask (g : GridStat) : Bool := g.valid && g.placed

/-- The requirement of FINALIZE (R402). -/
def GridStat.readyFinalize (g : GridStat) : Bool := g.valid && g.placed && g.sel && !g.final

end Sys2Proof.Machine
end

