-- ==== Sys2Proof/Machine/Operands.lean ====
section
/-! DEFINITION. Operand assembly (R161, R164): every operand form the commands have. All operands are
unsigned and are read as mathematical integers, so that no check wraps (R9, R456). -/

namespace Sys2Proof.Machine

/-- OPA as an integer (R161). -/
def State.opaNat (s : State) : Nat := s.opa.toNat

/-- OPB as an integer (R161). -/
def State.opbNat (s : State) : Nat := s.opb.toNat

/-- OPC as an integer (R161). -/
def State.opcNat (s : State) : Nat := s.opc.toNat

/-- DLEN as an integer (R63). -/
def State.dlenNat (s : State) : Nat := s.dlen.toNat

/-- CWLEN as an integer (R63). -/
def State.cwlenNat (s : State) : Nat := s.cwlen.toNat

/-- GLEN as an integer (R62). -/
def State.glenNat (s : State) : Nat := s.glen.toNat

/-- CONFIG.VERSION as an integer (R58). -/
def State.versionNat (s : State) : Nat := s.config.version.toNat

/-- GRIDSTAT.GVER as an integer (R59). -/
def State.gverNat (s : State) : Nat := s.gridstat.gver.toNat

/-- MASKSEL as an integer (R65). -/
def State.maskselNat (s : State) : Nat := s.masksel.toNat

/-- A version the symbology has: 1..40 (R8). -/
def legalVersion (v : Nat) : Bool := decide (1 ≤ v) && decide (v ≤ 40)

/-- `size(V)`, the side of the symbol (R8). -/
def symbolSize (v : Nat) : Nat := 4 * v + 17

/-- `n = size(GVER)`: the side of the grid in hand (42_matrix.md, introduction). -/
def State.gridSide (s : State) : Nat := symbolSize s.gverNat

/-- DBUF and CWBUF hold 4096 bytes (R8, R67). -/
def streamBufSize : Nat := 4096

/-- The byte range `off .. off + len - 1` leaves DBUF: a mathematical sum, no wrap (R206, R456). -/
def leavesDbuf (off len : Nat) : Bool := decide (streamBufSize < off + len)

/-- The ECC level of a 2-bit ECL field (R58). -/
def eccOfBits (b : BitVec 2) : EccLevel :=
  match b.toNat with
  | 0 => .l
  | 1 => .m
  | 2 => .q
  | _ => .h

/-- The 2-bit ECL field of a level (R58). -/
def eccToBits : EccLevel → BitVec 2
  | .l => 0
  | .m => 1
  | .q => 2
  | .h => 3

end Sys2Proof.Machine
end

