-- ==== Sys2Proof/Machine/Ops.lean ====
section
/-! DEFINITION. The named operations every command is built from: reading and writing runs of buffer
bytes (R67, R68), issuing a command (R60), completing one (R61), and ending one with an error (R500),
which is all this block has in place of a trap (R506, R507). -/

namespace Sys2Proof.Machine

/-- The four byte buffers (R67). -/
inductive Buf where
  | dbuf
  | cwbuf
  | gpoly
  | rembuf
  deriving DecidableEq, Repr

/-- First byte of a buffer's window (R121). -/
def Buf.base : Buf → Nat
  | .dbuf => 0x01000
  | .cwbuf => 0x02000
  | .gpoly => 0x03000
  | .rembuf => 0x03100

/-- Bytes in a buffer (R67). -/
def Buf.size : Buf → Nat
  | .dbuf => streamBufSize
  | .cwbuf => streamBufSize
  | .gpoly => 256
  | .rembuf => 256

/-- Whether the host may write the buffer (R67). -/
def Buf.hostWritable : Buf → Bool
  | .dbuf => true
  | .cwbuf => true
  | .gpoly => false
  | .rembuf => false

/-- Byte `i` of a buffer, if it is one of its bytes and has been written since reset (R68). -/
def State.readByte (s : State) (b : Buf) (i : Nat) : Option Byte :=
  if i < b.size then s.mem.read (b.base + i) else none

/-- Bytes `off .. off + len - 1` of a buffer, if all of them have been written (R68). -/
def State.readBytes (s : State) (b : Buf) (off : Nat) : Nat → Option (List Byte)
  | 0 => some []
  | len + 1 =>
    match s.readByte b off, s.readBytes b (off + 1) len with
    | some x, some xs => some (x :: xs)
    | _, _ => none

/-- Write a run of bytes from window address `a` on. -/
def Memory.writeRun (m : Memory) (a : Nat) : List Byte → Memory
  | [] => m
  | x :: xs => (m.write a x).writeRun (a + 1) xs

/-- Write a run of buffer bytes from index `off` on; each is then a written byte (R68). -/
def State.writeBytes (s : State) (b : Buf) (off : Nat) (xs : List Byte) : State :=
  { s with mem := s.mem.writeRun (b.base + off) xs }

/-- Why a command's body stops short: it raises an error (R500), or it would read an unwritten byte
(R505). -/
inductive Stop where
  | error (c : ErrorCode)
  | fault (f : Fault)
  deriving DecidableEq, Repr

/-- What a command's body gives: the state with all its writes, or why it stopped. -/
abbrev Body := Except Stop State

/-- `raise Error(code)` in a body (R10). -/
def raiseError (c : ErrorCode) : Body := .error (.error c)

/-- Go on with the bytes read, or stop with the fault of R68. -/
def withBytes (r : Option (List Byte)) (k : List Byte → Body) : Body :=
  match r with
  | none => .error (.fault .unwrittenBufferByte)
  | some xs => k xs

/-- Issue (R60): CMD holds the word, the engine is Busy with it latched, DONE, ERR and ERRCODE clear. -/
def State.issue (s : State) (w : Word) : State :=
  { s with
    cmd := w
    engine := .busy w
    status := { s.status with done := false, err := false, errcode := 0 } }

/-- Completion without an error (R61). -/
def State.complete (s : State) : State :=
  { s with
    engine := .idle
    status := { s.status with done := true, err := false, errcode := 0 } }

/-- Completion with an error (R61, R500): STATUS records it and nothing else changes. -/
def State.raise (s : State) (c : ErrorCode) : State :=
  { s with
    engine := .idle
    status := { s.status with done := true, err := true, errcode := c.code } }

/-- The outcome of a command on `s` whose body gives `b` (R61): all writes together, or none. -/
def finish (s : State) (b : Body) : Host.Outcome State Fault Refusal :=
  match b with
  | .ok t => .next t.complete
  | .error (.error c) => .next (s.raise c)
  | .error (.fault f) => .fault f

end Sys2Proof.Machine
end

