-- ==== Sys2Proof/Machine/FieldRs.lean ====
section
/-! DEFINITION. GF(2^8) and Reed-Solomon (40_gf_rs.md): field multiplication (R200), evaluation (R205), the
generator polynomial (R209), the remainder (R214), and the commands GFMUL, POLYEVAL, RSGEN, RSREM,
SYNDROME. -/

namespace Sys2Proof.Machine

/-- The reduction polynomial t^8 + t^4 + t^3 + t^2 + 1 (R200). -/
def gfModulus : BitVec 9 := 0x11D

/-- Multiply by t and reduce: the first line of the loop of R200. -/
def gfDouble (z : Byte) : Byte :=
  ((z.setWidth 9 <<< 1) ^^^ (if z.getLsbD 7 then gfModulus else 0)).setWidth 8

/-- The loop of R200 over bits `i - 1` down to 0 of `y`, from `z`. -/
def gfmulLoop (x y : Byte) : Nat → Byte → Byte
  | 0, z => z
  | i + 1, z => gfmulLoop x y i (gfDouble z ^^^ (if y.getLsbD i then x else 0))

/-- The field product (R200). -/
def gfmul (x y : Byte) : Byte := gfmulLoop x y 8 0

/-- α of R12: the root of R8. -/
def gfAlpha : Byte := 0x02

/-- α^i (R12). -/
def alphaPow : Nat → Byte
  | 0 => 0x01
  | i + 1 => gfmul (alphaPow i) gfAlpha

/-- The value at `x` of a data polynomial, highest degree first, by Horner's rule (R205). -/
def polyEval (b : List Byte) (x : Byte) : Byte := b.foldl (fun acc c => gfmul acc x ^^^ c) 0

/-- One pass of the loop of R209: multiply the monic polynomial by `x + root`. -/
def divisorPass (root : Byte) (r : List Byte) : List Byte :=
  List.zipWith (fun a b => gfmul a root ^^^ b) r (r.tail ++ [0])

/-- `k` passes of the loop of R209 from the coefficients `r` and the root `root`. -/
def divisorLoop : Nat → Byte → List Byte → List Byte
  | 0, _, r => r
  | k + 1, root, r => divisorLoop k (gfmul root gfAlpha) (divisorPass root r)

/-- The generator polynomial of degree `d`: its `d` lower coefficients, highest degree first (R209). -/
def divisor (d : Nat) : List Byte :=
  divisorLoop d 0x01 (List.replicate (d - 1) 0 ++ [0x01])

/-- One data byte of the loop of R214. -/
def remainderStep (p r : List Byte) (b : Byte) : List Byte :=
  List.zipWith (fun ri pi => ri ^^^ gfmul pi (b ^^^ r.headD 0)) (r.tail ++ [0]) p

/-- The remainder of `b(x) x^d` by the monic divisor with lower coefficients `p` (R214). -/
def remainder (b p : List Byte) : List Byte :=
  b.foldl (remainderStep p) (List.replicate p.length 0)

/-- `zext_32` of a byte (R9). -/
def zextByte (b : Byte) : Word := b.setWidth 32

/-- R201. -/
def gfmulBody (s : State) : Body :=
  if 255 < s.opaNat ∨ 255 < s.opbNat then raiseError .range
  else .ok { s with result := zextByte (gfmul (s.opa.setWidth 8) (s.opb.setWidth 8)) }

/-- GFMUL (R201). -/
def execGfmul (s : State) : Host.Outcome State Fault Refusal := finish s (gfmulBody s)

/-- R206. -/
def polyevalBody (s : State) : Body :=
  if 255 < s.opcNat then raiseError .range
  else if leavesDbuf s.opaNat s.opbNat then raiseError .range
  else withBytes (s.readBytes .dbuf s.opaNat s.opbNat) fun b =>
    .ok { s with result := zextByte (polyEval b (s.opc.setWidth 8)) }

/-- POLYEVAL (R206). -/
def execPolyeval (s : State) : Host.Outcome State Fault Refusal := finish s (polyevalBody s)

/-- An RS degree or syndrome count outside 1..255 (R8, R210, R219). -/
def badDegree (d : Nat) : Bool := decide (d < 1) || decide (255 < d)

/-- R210: GPOLY bytes at `d` and above keep their values. -/
def rsgenBody (s : State) : Body :=
  if badDegree s.opaNat then raiseError .range
  else .ok { s.writeBytes .gpoly 0 (divisor s.opaNat) with glen := BitVec.ofNat 9 s.opaNat }

/-- RSGEN (R210). -/
def execRsgen (s : State) : Host.Outcome State Fault Refusal := finish s (rsgenBody s)

/-- R215: REMBUF bytes at GLEN and above keep their values. -/
def rsremBody (s : State) : Body :=
  if s.glenNat = 0 then raiseError .sequence
  else if leavesDbuf s.opaNat s.opbNat then raiseError .range
  else withBytes (s.readBytes .dbuf s.opaNat s.opbNat) fun b =>
    withBytes (s.readBytes .gpoly 0 s.glenNat) fun p =>
      .ok (s.writeBytes .rembuf 0 (remainder b p))

/-- RSREM (R215). -/
def execRsrem (s : State) : Host.Outcome State Fault Refusal := finish s (rsremBody s)

/-- The syndromes `S_0 .. S_(cnt-1)` of a received word (R219). -/
def syndromes (b : List Byte) (cnt : Nat) : List Byte :=
  (List.range cnt).map fun i => polyEval b (alphaPow i)

/-- R219: REMBUF bytes at `cnt` and above keep their values. -/
def syndromeBody (s : State) : Body :=
  if badDegree s.opcNat then raiseError .range
  else if leavesDbuf s.opaNat s.opbNat then raiseError .range
  else withBytes (s.readBytes .dbuf s.opaNat s.opbNat) fun b =>
    .ok (s.writeBytes .rembuf 0 (syndromes b s.opcNat))

/-- SYNDROME (R219). -/
def execSyndrome (s : State) : Host.Outcome State Fault Refusal := finish s (syndromeBody s)

end Sys2Proof.Machine
end

