-- ==== Sys2Proof/Machine/Tables.lean ====
section
/-! DEFINITION. The values of the parameter `QrTables` (R7, R8, log 14): block counts (R252), alignment
centres (R314), mask predicates (R380) and penalty weights (R383 to R386). -/

namespace Sys2Proof.Machine

/-- One version of R252: blocks and ECC codewords per block at each level. -/
structure CapacityRow where
  l : Nat × Nat
  m : Nat × Nat
  q : Nat × Nat
  h : Nat × Nat
  deriving DecidableEq, Repr

/-- Versions 1 to 10 of the table of R252. -/
def capacityRows1 : List CapacityRow := [
  { l := (1, 7), m := (1, 10), q := (1, 13), h := (1, 17) },
  { l := (1, 10), m := (1, 16), q := (1, 22), h := (1, 28) },
  { l := (1, 15), m := (1, 26), q := (2, 18), h := (2, 22) },
  { l := (1, 20), m := (2, 18), q := (2, 26), h := (4, 16) },
  { l := (1, 26), m := (2, 24), q := (4, 18), h := (4, 22) },
  { l := (2, 18), m := (4, 16), q := (4, 24), h := (4, 28) },
  { l := (2, 20), m := (4, 18), q := (6, 18), h := (5, 26) },
  { l := (2, 24), m := (4, 22), q := (6, 22), h := (6, 26) },
  { l := (2, 30), m := (5, 22), q := (8, 20), h := (8, 24) },
  { l := (4, 18), m := (5, 26), q := (8, 24), h := (8, 28) }]

/-- Versions 11 to 20 of the table of R252. -/
def capacityRows11 : List CapacityRow := [
  { l := (4, 20), m := (5, 30), q := (8, 28), h := (11, 24) },
  { l := (4, 24), m := (8, 22), q := (10, 26), h := (11, 28) },
  { l := (4, 26), m := (9, 22), q := (12, 24), h := (16, 22) },
  { l := (4, 30), m := (9, 24), q := (16, 20), h := (16, 24) },
  { l := (6, 22), m := (10, 24), q := (12, 30), h := (18, 24) },
  { l := (6, 24), m := (10, 28), q := (17, 24), h := (16, 30) },
  { l := (6, 28), m := (11, 28), q := (16, 28), h := (19, 28) },
  { l := (6, 30), m := (13, 26), q := (18, 28), h := (21, 28) },
  { l := (7, 28), m := (14, 26), q := (21, 26), h := (25, 26) },
  { l := (8, 28), m := (16, 26), q := (20, 30), h := (25, 28) }]

/-- Versions 21 to 30 of the table of R252. -/
def capacityRows21 : List CapacityRow := [
  { l := (8, 28), m := (17, 26), q := (23, 28), h := (25, 30) },
  { l := (9, 28), m := (17, 28), q := (23, 30), h := (34, 24) },
  { l := (9, 30), m := (18, 28), q := (25, 30), h := (30, 30) },
  { l := (10, 30), m := (20, 28), q := (27, 30), h := (32, 30) },
  { l := (12, 26), m := (21, 28), q := (29, 30), h := (35, 30) },
  { l := (12, 28), m := (23, 28), q := (34, 28), h := (37, 30) },
  { l := (12, 30), m := (25, 28), q := (34, 30), h := (40, 30) },
  { l := (13, 30), m := (26, 28), q := (35, 30), h := (42, 30) },
  { l := (14, 30), m := (28, 28), q := (38, 30), h := (45, 30) },
  { l := (15, 30), m := (29, 28), q := (40, 30), h := (48, 30) }]

/-- Versions 31 to 40 of the table of R252. -/
def capacityRows31 : List CapacityRow := [
  { l := (16, 30), m := (31, 28), q := (43, 30), h := (51, 30) },
  { l := (17, 30), m := (33, 28), q := (45, 30), h := (54, 30) },
  { l := (18, 30), m := (35, 28), q := (48, 30), h := (57, 30) },
  { l := (19, 30), m := (37, 28), q := (51, 30), h := (60, 30) },
  { l := (19, 30), m := (38, 28), q := (53, 30), h := (63, 30) },
  { l := (20, 30), m := (40, 28), q := (56, 30), h := (66, 30) },
  { l := (21, 30), m := (43, 28), q := (59, 30), h := (70, 30) },
  { l := (22, 30), m := (45, 28), q := (62, 30), h := (74, 30) },
  { l := (24, 30), m := (47, 28), q := (65, 30), h := (77, 30) },
  { l := (25, 30), m := (49, 28), q := (68, 30), h := (81, 30) }]

/-- The table of R252, version 1 first. -/
def capacityRows : List CapacityRow :=
  capacityRows1 ++ capacityRows11 ++ capacityRows21 ++ capacityRows31

/-- Blocks and ECC codewords per block (R252); no symbol has another version. -/
def capacityOf (v : Nat) (e : EccLevel) : Nat × Nat :=
  match v with
  | 0 => (0, 0)
  | i + 1 =>
    match capacityRows[i]? with
    | none => (0, 0)
    | some row =>
      match e with
      | .l => row.l
      | .m => row.m
      | .q => row.q
      | .h => row.h

/-- Alignment positions per axis, `A` of R250 and R314. -/
def alignmentCount (v : Nat) : Nat := v / 7 + 2

/-- The distance between alignment centres, `step` of R314. -/
def alignmentStep (v : Nat) : Nat :=
  (v * 8 + alignmentCount v * 3 + 5) / (alignmentCount v * 4 - 4) * 2

/-- The alignment positions `P(V)`, increasing (R314). -/
def alignmentCentres (v : Nat) : List Nat :=
  if v < 2 then []
  else 6 :: (List.range (alignmentCount v - 1)).reverse.map
    fun i => symbolSize v - 7 - i * alignmentStep v

/-- The mask predicates (R380). -/
def maskPredicate (k r c : Nat) : Bool :=
  match k with
  | 0 => (r + c) % 2 == 0
  | 1 => r % 2 == 0
  | 2 => c % 3 == 0
  | 3 => (r + c) % 3 == 0
  | 4 => (r / 2 + c / 3) % 2 == 0
  | 5 => r * c % 2 + r * c % 3 == 0
  | 6 => (r * c % 2 + r * c % 3) % 2 == 0
  | 7 => ((r + c) % 2 + r * c % 3) % 2 == 0
  | _ => false

/-- `QrTables` with the spec's values as its default (D34, log 14). -/
def qrTables : QrTables :=
  { capacity := capacityOf
    alignment := alignmentCentres
    mask := maskPredicate
    runWeight := 3
    runLength := 5
    blockWeight := 3
    finderLike := [true, false, true, true, true, false, true, false, false, false, false]
    finderWeight := 40
    balanceWeight := 10 }

end Sys2Proof.Machine
end

