-- ==== Sys2Proof/Machine/Capacity.lean ====
section
/-! DEFINITION. Capacity functions (R250, R252, R253), block splitting, block ECC and interleaving (R260,
R261, R264), and the commands CAPQ and INTERLEAVE (41_capacity_interleave.md). -/

namespace Sys2Proof.Machine

/-- The alignment term of R250: alignment-pattern modules less their overlap with timing. -/
def alignmentModules (v : Nat) : Nat := (25 * alignmentCount v - 10) * alignmentCount v - 55

/-- `rawDataModules(V)` (R250). -/
def rawDataModules (v : Nat) : Nat :=
  let r := (16 * v + 128) * v + 64
  if v < 2 then r
  else if v < 7 then r - alignmentModules v
  else r - alignmentModules v - 36

/-- `numBlocks(V, e)` (R252). -/
def numBlocks (T : QrTables) (v : Nat) (e : EccLevel) : Nat := (T.capacity v e).1

/-- `eccCodewordsPerBlock(V, e)` (R252). -/
def eccPerBlock (T : QrTables) (v : Nat) (e : EccLevel) : Nat := (T.capacity v e).2

/-- `rawCodewords(V)` (R253). -/
def rawCodewords (v : Nat) : Nat := rawDataModules v / 8

/-- `numShortBlocks(V, e)` (R253). -/
def numShortBlocks (T : QrTables) (v : Nat) (e : EccLevel) : Nat :=
  numBlocks T v e - rawCodewords v % numBlocks T v e

/-- `shortBlockLen(V, e)`: data and ECC of a short block (R253). -/
def shortBlockLen (T : QrTables) (v : Nat) (e : EccLevel) : Nat := rawCodewords v / numBlocks T v e

/-- `dataCapacity(V, e)` (R253). -/
def dataCapacity (T : QrTables) (v : Nat) (e : EccLevel) : Nat :=
  rawCodewords v - numBlocks T v e * eccPerBlock T v e

/-- Data codewords of a short block, `sl - el` of R260. -/
def shortDataLen (T : QrTables) (v : Nat) (e : EccLevel) : Nat :=
  shortBlockLen T v e - eccPerBlock T v e

/-- The capacity registers as CAPQ writes them (R251, R64). -/
def State.withCapacity (s : State) (T : QrTables) (v : Nat) (e : EccLevel) : State :=
  { s with
    capblk := BitVec.ofNat 8 (numBlocks T v e)
    capecc := BitVec.ofNat 8 (eccPerBlock T v e)
    capraw := BitVec.ofNat 16 (rawDataModules v)
    capdata := BitVec.ofNat 16 (dataCapacity T v e)
    capshort :=
      { numShort := BitVec.ofNat 16 (numShortBlocks T v e)
        shortLen := BitVec.ofNat 16 (shortBlockLen T v e) } }

/-- R251. -/
def capqBody (T : QrTables) (s : State) : Body :=
  if legalVersion s.versionNat then .ok (s.withCapacity T s.versionNat s.config.ecl)
  else raiseError .range

/-- CAPQ (R251). -/
def execCapq (s : State) : Host.Outcome State Fault Refusal := finish s (capqBody qrTables s)

/-- `len_j`: the data codewords of block `j` (R260). -/
def chunkLen (T : QrTables) (v : Nat) (e : EccLevel) (j : Nat) : Nat :=
  shortDataLen T v e + (if j < numShortBlocks T v e then 0 else 1)

/-- Cut a list into consecutive chunks of the given lengths (R260). -/
def splitChunks : List Nat → List Byte → List (List Byte)
  | [], _ => []
  | n :: ns, data => data.take n :: splitChunks ns (data.drop n)

/-- The data chunks of all blocks (R260). -/
def dataChunks (T : QrTables) (v : Nat) (e : EccLevel) (data : List Byte) : List (List Byte) :=
  splitChunks ((List.range (numBlocks T v e)).map (chunkLen T v e)) data

/-- The padded block `blk_j`: data, the placeholder of a short block, ECC by the divisor `p` (R261). -/
def paddedBlock (T : QrTables) (v : Nat) (e : EccLevel) (p : List Byte) (j : Nat)
    (chunk : List Byte) : List Byte :=
  chunk ++ (if j < numShortBlocks T v e then [0] else []) ++ remainder chunk p

/-- All padded blocks (R261). -/
def paddedBlocks (T : QrTables) (v : Nat) (e : EccLevel) (data : List Byte) : List (List Byte) :=
  List.zipWith (paddedBlock T v e (divisor (eccPerBlock T v e))) (List.range (numBlocks T v e))
    (dataChunks T v e data)

/-- Round `i` of the interleaver: byte `i` of every block in order, placeholders left out (R262, R264). -/
def interleaveRound (T : QrTables) (v : Nat) (e : EccLevel) (blks : List (List Byte)) (i : Nat) :
    List Byte :=
  (List.range (numBlocks T v e)).flatMap fun j =>
    if i = shortDataLen T v e ∧ j < numShortBlocks T v e then []
    else [(blks.getD j []).getD i 0]

/-- The interleaver's output for padded blocks (R262). -/
def interleaveBlocks (T : QrTables) (v : Nat) (e : EccLevel) (blks : List (List Byte)) : List Byte :=
  (List.range (shortBlockLen T v e + 1)).flatMap (interleaveRound T v e blks)

/-- `addEccAndInterleave` (R260 to R264). -/
def interleaved (T : QrTables) (v : Nat) (e : EccLevel) (data : List Byte) : List Byte :=
  interleaveBlocks T v e (paddedBlocks T v e data)

/-- R262. -/
def interleaveBody (T : QrTables) (s : State) : Body :=
  let v := s.versionNat
  let e := s.config.ecl
  if !legalVersion v then raiseError .range
  else if dataCapacity T v e < s.dlenNat then raiseError .capacity
  else if s.dlenNat < dataCapacity T v e then raiseError .invariant
  else withBytes (s.readBytes .dbuf 0 s.dlenNat) fun data =>
    .ok { (s.writeBytes .cwbuf 0 (interleaved T v e data)).withCapacity T v e with
      cwlen := BitVec.ofNat 32 (rawCodewords v) }

/-- INTERLEAVE (R262). -/
def execInterleave (s : State) : Host.Outcome State Fault Refusal := finish s (interleaveBody qrTables s)

end Sys2Proof.Machine
end

