-- ==== Sys2Proof/Machine/Matrix.lean ====
section
/-! DEFINITION. The symbol matrix builder (42_matrix.md): the stamp primitive (R302), the function-pattern
regions (R305, R308, R311, R314, R317, R318, R321), and the commands GRIDINIT, STAMP_FINDER, STAMP_SEP,
STAMP_TIMING, STAMP_ALIGN, RESERVE_FMT, RESERVE_VER, STAMP_ALL. -/

namespace Sys2Proof.Machine

/-- One request `stamp(r, c, t)` (R302). -/
structure Stamp where
  r : Nat
  c : Nat
  t : Tag
  deriving DecidableEq, Repr

/-- The stamp primitive (R302): first writer wins, out of bounds is clipped. -/
def stamp (n : Nat) (g : Grid) (x : Stamp) : Grid :=
  if x.r < n ∧ x.c < n ∧ (g.read x.r x.c).fn = false then
    g.write x.r x.c { tag := x.t, fn := true }
  else g

/-- Stamp requests in order. -/
def stampMany (n : Nat) (g : Grid) (xs : List Stamp) : Grid := xs.foldl (stamp n) g

/-- `|a - b|`. -/
def absDiff (a b : Nat) : Nat := (a - b) + (b - a)

/-- The tag of the finder pattern at offset `(dr, dc)` (R305). -/
def finderTag (dr dc : Nat) : Tag :=
  if max (absDiff dr 3) (absDiff dc 3) = 2 then .light else .dark

/-- The finder pattern with top-left module `(r0, c0)` (R305). -/
def finderAt (r0 c0 : Nat) : List Stamp :=
  (List.range 7).flatMap fun dr => (List.range 7).map fun dc =>
    { r := r0 + dr, c := c0 + dc, t := finderTag dr dc }

/-- The three finder patterns at TL, BL, TR (R300, R306). -/
def finderStamps (n : Nat) : List Stamp := finderAt 0 0 ++ finderAt (n - 7) 0 ++ finderAt 0 (n - 7)

/-- Eight modules of row `r` from column `c0` on, Light. -/
def lightRow (r c0 : Nat) : List Stamp :=
  (List.range 8).map fun i => { r := r, c := c0 + i, t := .light }

/-- Eight modules of column `c` from row `r0` on, Light. -/
def lightColumn (r0 c : Nat) : List Stamp :=
  (List.range 8).map fun i => { r := r0 + i, c := c, t := .light }

/-- The separators around TL, BL and TR (R308). -/
def separatorStamps (n : Nat) : List Stamp :=
  (lightRow 7 0 ++ lightColumn 0 7) ++ (lightRow (n - 8) 0 ++ lightColumn (n - 8) 7) ++
  (lightRow 7 (n - 8) ++ lightColumn 0 (n - 8))

/-- The timing tag of index `i` (R311). -/
def timingTag (i : Nat) : Tag := if i % 2 = 0 then .dark else .light

/-- The timing patterns along row 6 and column 6 (R311, R312). -/
def timingStamps (n : Nat) : List Stamp :=
  (List.range n).flatMap fun i =>
    [{ r := 6, c := i, t := timingTag i }, { r := i, c := 6, t := timingTag i }]

/-- The 5x5 alignment pattern with centre `(a, b)` (R315); `dr`, `dc` count from -2. -/
def alignmentAt (a b : Nat) : List Stamp :=
  (List.range 5).flatMap fun dr => (List.range 5).map fun dc =>
    { r := a + dr - 2, c := b + dc - 2
      t := if max (absDiff dr 2) (absDiff dc 2) = 1 then .light else .dark }

/-- Whether the alignment centre `(a, b)` is one of the three finder corners (R315). -/
def isFinderCorner (first last a b : Nat) : Bool :=
  (a == first && b == first) || (a == first && b == last) || (a == last && b == first)

/-- The alignment patterns with centres from `p` (R315). -/
def alignmentStamps (p : List Nat) : List Stamp :=
  p.flatMap fun a => p.flatMap fun b =>
    if isFinderCorner (p.headD 0) (p.getLastD 0) a b then [] else alignmentAt a b

/-- `F1[i]`, `i` in 0..14 (R317). -/
def formatF1 (i : Nat) : Nat × Nat :=
  if i ≤ 5 then (i, 8)
  else if i = 6 then (7, 8)
  else if i = 7 then (8, 8)
  else if i = 8 then (8, 7)
  else (8, 14 - i)

/-- `F2[i]`, `i` in 0..14 (R317). -/
def formatF2 (n i : Nat) : Nat × Nat := if i ≤ 7 then (8, n - 1 - i) else (n - 15 + i, 8)

/-- `VA[i]`, `i` in 0..17 (R321). -/
def versionVA (n i : Nat) : Nat × Nat := (i / 3, n - 11 + i % 3)

/-- `VB[i]`, `i` in 0..17 (R321). -/
def versionVB (n i : Nat) : Nat × Nat := (n - 11 + i % 3, i / 3)

/-- A stamp at a coordinate. -/
def stampAt (p : Nat × Nat) (t : Tag) : Stamp := { r := p.1, c := p.2, t := t }

/-- The format regions, then the dark module (R317 to R319). -/
def formatStamps (n : Nat) : List Stamp :=
  (List.range 15).flatMap (fun i =>
    [stampAt (formatF1 i) .reservedFormat, stampAt (formatF2 n i) .reservedFormat]) ++
  [stampAt (n - 8, 8) .dark]

/-- The version regions, from version 7 on (R321, R322). -/
def versionStamps (v n : Nat) : List Stamp :=
  if 7 ≤ v then
    (List.range 18).flatMap fun i =>
      [stampAt (versionVA n i) .reservedVersion, stampAt (versionVB n i) .reservedVersion]
  else []

/-- R301: every module Unset with function bit 0, GRIDSTAT = GVER and VALID. -/
def gridinitBody (s : State) : Body :=
  if legalVersion s.versionNat then
    .ok { s with grid := [], gridstat := GridStat.initial s.config.version }
  else raiseError .range

/-- GRIDINIT (R301). -/
def execGridinit (s : State) : Host.Outcome State Fault Refusal := finish s (gridinitBody s)

/-- The grid in hand after the stamps. -/
def State.stamped (s : State) (xs : List Stamp) : Grid := stampMany s.gridSide s.grid xs

/-- The stamps of STAMP_FINDER (R306). -/
def State.doFinder (s : State) : State :=
  { s with
    grid := s.stamped (finderStamps s.gridSide)
    gridstat := { s.gridstat with sFinder := true } }

/-- The stamps of STAMP_SEP (R309). -/
def State.doSep (s : State) : State :=
  { s with
    grid := s.stamped (separatorStamps s.gridSide)
    gridstat := { s.gridstat with sSep := true } }

/-- The stamps of STAMP_TIMING (R312). -/
def State.doTiming (s : State) : State :=
  { s with
    grid := s.stamped (timingStamps s.gridSide)
    gridstat := { s.gridstat with sTiming := true } }

/-- The stamps of STAMP_ALIGN (R315). -/
def State.doAlign (s : State) (T : QrTables) : State :=
  { s with
    grid := s.stamped (alignmentStamps (T.alignment s.gverNat))
    gridstat := { s.gridstat with sAlign := true } }

/-- The stamps of RESERVE_FMT (R319). -/
def State.doReserveFmt (s : State) : State :=
  { s with
    grid := s.stamped (formatStamps s.gridSide)
    gridstat := { s.gridstat with sFmt := true } }

/-- The stamps of RESERVE_VER (R322). -/
def State.doReserveVer (s : State) : State :=
  { s with
    grid := s.stamped (versionStamps s.gverNat s.gridSide)
    gridstat := { s.gridstat with sVer := true } }

/-- A stage that needs earlier stages (R303): its effect, or SEQUENCE. -/
def staged (ready : Bool) (t : State) : Body := if ready then .ok t else raiseError .sequence

/-- R306. -/
def stampFinderBody (s : State) : Body := staged s.gridstat.readyFinder s.doFinder

/-- STAMP_FINDER (R306). -/
def execStampFinder (s : State) : Host.Outcome State Fault Refusal := finish s (stampFinderBody s)

/-- R309. -/
def stampSepBody (s : State) : Body := staged s.gridstat.readySep s.doSep

/-- STAMP_SEP (R309). -/
def execStampSep (s : State) : Host.Outcome State Fault Refusal := finish s (stampSepBody s)

/-- R312. -/
def stampTimingBody (s : State) : Body := staged s.gridstat.readyTiming s.doTiming

/-- STAMP_TIMING (R312). -/
def execStampTiming (s : State) : Host.Outcome State Fault Refusal := finish s (stampTimingBody s)

/-- R315. -/
def stampAlignBody (T : QrTables) (s : State) : Body := staged s.gridstat.readyAlign (s.doAlign T)

/-- STAMP_ALIGN (R315). -/
def execStampAlign (s : State) : Host.Outcome State Fault Refusal :=
  finish s (stampAlignBody qrTables s)

/-- R319. -/
def reserveFmtBody (s : State) : Body := staged s.gridstat.readyFmt s.doReserveFmt

/-- RESERVE_FMT (R319). -/
def execReserveFmt (s : State) : Host.Outcome State Fault Refusal := finish s (reserveFmtBody s)

/-- R322. -/
def reserveVerBody (s : State) : Body := staged s.gridstat.readyVer s.doReserveVer

/-- RESERVE_VER (R322). -/
def execReserveVer (s : State) : Host.Outcome State Fault Refusal := finish s (reserveVerBody s)

/-- All six stamps in order (R325). -/
def State.doStampAll (s : State) (T : QrTables) : State :=
  ((s.doFinder.doSep.doTiming.doAlign T).doReserveFmt).doReserveVer

/-- R325: the order is enforced by construction, so only a valid grid is required. -/
def stampAllBody (T : QrTables) (s : State) : Body := staged s.gridstat.valid (s.doStampAll T)

/-- STAMP_ALL (R325). -/
def execStampAll (s : State) : Host.Outcome State Fault Refusal :=
  finish s (stampAllBody qrTables s)

end Sys2Proof.Machine
end

