-- ==== Sys2Proof/Machine/Placement.lean ====
section
/-! DEFINITION. The zigzag data placer (43_placement.md): the visit order (R350), the codeword bits (R130,
R352), the remainder modules (R353), and the command PLACE (R354). -/

namespace Sys2Proof.Machine

/-- The right columns of the pairs, from `right` leftwards, column 6 skipped (R350). `fuel` bounds the
number of pairs. -/
def pairColumns : Nat → Nat → List Nat
  | 0, _ => []
  | fuel + 1, right =>
    if right < 1 then []
    else
      let right := if right = 6 then 5 else right
      right :: pairColumns fuel (right - 2)

/-- Whether the pair with right column `right` is traversed upwards (R350). -/
def pairUpward (right : Nat) : Bool := (right + 1) &&& 2 == 0

/-- The modules of one column pair in visit order (R350). -/
def pairOrder (n right : Nat) : List (Nat × Nat) :=
  (List.range n).flatMap fun vert =>
    let r := if pairUpward right then n - 1 - vert else vert
    [(r, right), (r, right - 1)]

/-- `visitOrder(n)` (R350). -/
def visitOrder (n : Nat) : List (Nat × Nat) := (pairColumns n (n - 1)).flatMap (pairOrder n)

/-- The bits of a byte, most significant first (R130). -/
def byteBits (b : Byte) : List Bool := (List.range 8).map fun i => b.getLsbD (7 - i)

/-- The bits of a codeword stream (R130). -/
def streamBits (bytes : List Byte) : List Bool := bytes.flatMap byteBits

/-- Dark for 1, Light for 0 (R14). -/
def bitTag (b : Bool) : Tag := if b then .dark else .light

/-- Write the bits into the Unset modules among those visited, in order, and Light once they run out
(R351 to R353). Function bits stay as they are. -/
def placeBits : List (Nat × Nat) → List Bool → Grid → Grid
  | [], _, g => g
  | p :: ps, bits, g =>
    if (g.read p.1 p.2).tag = .unset then
      match bits with
      | [] => placeBits ps [] (g.setTag p.1 p.2 .light)
      | b :: bs => placeBits ps bs (g.setTag p.1 p.2 (bitTag b))
    else placeBits ps bits g

/-- The modules of the `n x n` symbol, row by row. -/
def squareModules (n : Nat) : List (Nat × Nat) :=
  (List.range n).flatMap fun r => (List.range n).map fun c => (r, c)

/-- How many modules of the symbol are Unset (R327, R354). -/
def unsetCount (n : Nat) (g : Grid) : Nat :=
  (squareModules n).countP fun p => decide ((g.read p.1 p.2).tag = .unset)

/-- R354. -/
def placeBody (s : State) : Body :=
  if !s.gridstat.allStamped then raiseError .sequence
  else if s.gridstat.placed then raiseError .sequence
  else if s.cwlenNat ≠ rawDataModules s.gverNat / 8 then raiseError .invariant
  else if unsetCount s.gridSide s.grid ≠ rawDataModules s.gverNat then raiseError .invariant
  else withBytes (s.readBytes .cwbuf 0 s.cwlenNat) fun bytes =>
    .ok { s with
      grid := placeBits (visitOrder s.gridSide) (streamBits bytes) s.grid
      gridstat := { s.gridstat with placed := true } }

/-- PLACE (R354). -/
def execPlace (s : State) : Host.Outcome State Fault Refusal := finish s (placeBody s)

end Sys2Proof.Machine
end

