-- ==== Sys2Proof/Machine/MaskFormat.lean ====
section
/-! DEFINITION. Masking, penalty, format and version information (44_mask_format.md): mask application
(R380, R381), candidates (R382), the four penalty rules (R383 to R386), the format word (R390, R392), the
version word (R397), and the commands MASKAPPLY, SCORE, SELECT, FMTENC, FMTWRITE, VERENC, VERWRITE,
FINALIZE. -/

namespace Sys2Proof.Machine

/-- Flip one module if it is a data module under the mask (R381): Light if it is Dark, else Dark. -/
def maskModule (T : QrTables) (k : Nat) (g : Grid) (p : Nat × Nat) : Grid :=
  let m := g.read p.1 p.2
  if !m.fn && T.mask k p.1 p.2 then
    g.setTag p.1 p.2 (if m.tag = .dark then .light else .dark)
  else g

/-- `mask_k` applied to the data region of the `n x n` symbol (R381). -/
def maskGrid (T : QrTables) (k n : Nat) (g : Grid) : Grid :=
  (squareModules n).foldl (maskModule T k) g

/-- R381: the grid is masked, SEL and FINAL are cleared. -/
def maskapplyBody (T : QrTables) (k : BitVec 3) (s : State) : Body :=
  staged s.gridstat.readyMask
    { s with
      grid := maskGrid T k.toNat s.gridSide s.grid
      gridstat := { s.gridstat with sel := false, final := false } }

/-- MASKAPPLY k (R381). -/
def execMaskapply (k : BitVec 3) (s : State) : Host.Outcome State Fault Refusal :=
  finish s (maskapplyBody qrTables k s)

/-- `f` applied `n` times. -/
def times {α : Type} (f : α → α) : Nat → α → α
  | 0, a => a
  | n + 1, a => times f n (f a)

/-- The 2-bit ECC-level indicator (R392). -/
def eccIndicator : EccLevel → Nat
  | .l => 0b01
  | .m => 0b00
  | .q => 0b11
  | .h => 0b10

/-- One step of the BCH remainder (R390). -/
def bchStep (rem : Nat) : Nat := (rem <<< 1) ^^^ ((rem >>> 9) * 0x537)

/-- `fmt(e, k)` (R390). -/
def formatWord (e : EccLevel) (k : Nat) : BitVec 15 :=
  let data := (eccIndicator e <<< 3) ||| k
  BitVec.ofNat 15 (((data <<< 10) ||| times bchStep 10 data) ^^^ 0x5412)

/-- One step of the Golay remainder (R397). -/
def golayStep (rem : Nat) : Nat := (rem <<< 1) ^^^ ((rem >>> 11) * 0x1F25)

/-- `ver(V)` (R397). -/
def versionWord (v : Nat) : BitVec 18 := BitVec.ofNat 18 ((v <<< 12) ||| times golayStep 12 v)

/-- Write bit `i` of the format word into `F1[i]` and `F2[i]` (R391, R395). -/
def writeFormatBit (n : Nat) (w : BitVec 15) (g : Grid) (i : Nat) : Grid :=
  let t := bitTag (w.getLsbD i)
  let g := g.setTag (formatF1 i).1 (formatF1 i).2 t
  g.setTag (formatF2 n i).1 (formatF2 n i).2 t

/-- Write the format word into both regions (R395). -/
def writeFormat (n : Nat) (w : BitVec 15) (g : Grid) : Grid :=
  (List.range 15).foldl (writeFormatBit n w) g

/-- Write bit `i` of the version word into `VA[i]` and `VB[i]` (R399, R400). -/
def writeVersionBit (n : Nat) (w : BitVec 18) (g : Grid) (i : Nat) : Grid :=
  let t := bitTag (w.getLsbD i)
  let g := g.setTag (versionVA n i).1 (versionVA n i).2 t
  g.setTag (versionVB n i).1 (versionVB n i).2 t

/-- Write the version word into both regions, from version 7 on (R400). -/
def writeVersion (v n : Nat) (g : Grid) : Grid :=
  if 7 ≤ v then (List.range 18).foldl (writeVersionBit n (versionWord v)) g else g

/-- `candidate(G, e, k)` for a grid of version `v` (R382). -/
def candidate (T : QrTables) (v : Nat) (e : EccLevel) (k : Nat) (g : Grid) : Grid :=
  let n := symbolSize v
  writeVersion v n (writeFormat n (formatWord e k) (maskGrid T k n g))

/-- `M` of a grid: its rows, Dark as true (44_mask_format.md, section 2). -/
def darkRows (n : Nat) (g : Grid) : List (List Bool) :=
  (List.range n).map fun r => (List.range n).map fun c => decide ((g.read r c).tag = .dark)

/-- The columns of a matrix given by its rows. -/
def columnsOf (m : List (List Bool)) : List (List Bool) :=
  (List.range m.length).map fun c => m.map fun row => row.getD c false

/-- The lines of `M`: its rows and its columns. -/
def linesOf (m : List (List Bool)) : List (List Bool) := m ++ columnsOf m

/-- The lengths of the maximal runs of a line that goes on after `len` modules of value `v` (R383). -/
def runLengthsFrom (v : Bool) (len : Nat) : List Bool → List Nat
  | [] => [len]
  | b :: bs => if b = v then runLengthsFrom v (len + 1) bs else len :: runLengthsFrom b 1 bs

/-- The lengths of the maximal runs of a line (R383). -/
def runLengths : List Bool → List Nat
  | [] => []
  | b :: bs => runLengthsFrom b 1 bs

/-- What a run of length `len` adds (R383). -/
def runPenalty (T : QrTables) (len : Nat) : Nat :=
  if T.runLength ≤ len then T.runWeight + (len - T.runLength) else 0

/-- `N1` (R383). -/
def penaltyRuns (T : QrTables) (m : List (List Bool)) : Nat :=
  ((linesOf m).map fun line => ((runLengths line).map (runPenalty T)).sum).sum

/-- The uniform 2x2 windows of two adjacent rows (R384). -/
def uniformWindows : List Bool → List Bool → Nat
  | a :: a' :: as, b :: b' :: bs =>
    (if a = a' ∧ a = b ∧ a = b' then 1 else 0) + uniformWindows (a' :: as) (b' :: bs)
  | _, _ => 0

/-- The uniform 2x2 windows of a matrix (R384). -/
def uniformBlocks : List (List Bool) → Nat
  | row :: row' :: rows => uniformWindows row row' + uniformBlocks (row' :: rows)
  | _ => 0

/-- `N2` (R384). -/
def penaltyBlocks (T : QrTables) (m : List (List Bool)) : Nat := T.blockWeight * uniformBlocks m

/-- How many windows of a line equal the pattern, overlapping ones each (R385). -/
def countWindows (pat : List Bool) : List Bool → Nat
  | [] => 0
  | b :: bs => (if (b :: bs).take pat.length = pat then 1 else 0) + countWindows pat bs

/-- What the finder-like windows `A` and `B` of a line add (R385). -/
def finderLikePenalty (T : QrTables) (line : List Bool) : Nat :=
  T.finderWeight *
    (countWindows T.finderLike line + countWindows T.finderLike.reverse line)

/-- `N3` (R385). -/
def penaltyFinders (T : QrTables) (m : List (List Bool)) : Nat :=
  ((linesOf m).map (finderLikePenalty T)).sum

/-- How many modules are Dark (R386). -/
def darkCount (m : List (List Bool)) : Nat := (m.map fun row => row.countP id).sum

/-- `N4` (R386), in exact integers; the truncated difference is the `max(0, ..)`. -/
def penaltyBalance (T : QrTables) (m : List (List Bool)) : Nat :=
  let t := m.length * m.length
  let d := absDiff (20 * darkCount m) (10 * t)
  T.balanceWeight * ((d + t - 1) / t - 1)

/-- `penalty(M) = N1 + N2 + N3 + N4` (R386). -/
def penalty (T : QrTables) (m : List (List Bool)) : Nat :=
  penaltyRuns T m + penaltyBlocks T m + penaltyFinders T m + penaltyBalance T m

/-- The penalty of candidate `k` of the grid in hand (R387). -/
def State.candidatePenalty (s : State) (T : QrTables) (k : Nat) : Nat :=
  penalty T (darkRows s.gridSide (candidate T s.gverNat s.config.ecl k s.grid))

/-- PENk replaced (R387). -/
def State.setPen (s : State) (k : BitVec 3) (w : Word) : State :=
  { s with pen := s.pen.set k.toNat w (by have := k.isLt; omega) }

/-- R387. -/
def scoreBody (T : QrTables) (k : BitVec 3) (s : State) : Body :=
  staged s.gridstat.readyMask (s.setPen k (BitVec.ofNat 32 (s.candidatePenalty T k.toNat)))

/-- SCORE k (R387). -/
def execScore (k : BitVec 3) (s : State) : Host.Outcome State Fault Refusal :=
  finish s (scoreBody qrTables k s)

/-- The eight penalties (R388). -/
def State.allPenalties (s : State) (T : QrTables) : List Nat :=
  (List.range 8).map (s.candidatePenalty T)

/-- `min` of a list (R388). -/
def leastOf (p : List Nat) : Nat := p.foldl min (p.headD 0)

/-- The least index at which a list has its minimum (R388). -/
def leastIndex (p : List Nat) : Nat := p.findIdx fun x => x == leastOf p

/-- PEN0 to PEN7 from eight penalties (R388). -/
def penVector (p : List Nat) : Vector Word 8 :=
  #v[BitVec.ofNat 32 (p.getD 0 0), BitVec.ofNat 32 (p.getD 1 0), BitVec.ofNat 32 (p.getD 2 0),
     BitVec.ofNat 32 (p.getD 3 0), BitVec.ofNat 32 (p.getD 4 0), BitVec.ofNat 32 (p.getD 5 0),
     BitVec.ofNat 32 (p.getD 6 0), BitVec.ofNat 32 (p.getD 7 0)]

/-- What SELECT writes once the penalties are known (R388). -/
def State.withSelection (s : State) (p : List Nat) : State :=
  { s with
    pen := penVector p
    masksel := BitVec.ofNat 3 (leastIndex p)
    gridstat := { s.gridstat with sel := true } }

/-- R388. -/
def selectBody (T : QrTables) (s : State) : Body :=
  staged s.gridstat.readyMask (s.withSelection (s.allPenalties T))

/-- SELECT (R388). -/
def execSelect (s : State) : Host.Outcome State Fault Refusal := finish s (selectBody qrTables s)

/-- FMTENC k (R393). -/
def execFmtenc (k : BitVec 3) (s : State) : Host.Outcome State Fault Refusal :=
  finish s (.ok { s with fmtbits := formatWord s.config.ecl k.toNat })

/-- The writes of FMTWRITE (R395). -/
def State.doFmtwrite (s : State) (k : BitVec 3) : State :=
  { s with
    grid := writeFormat s.gridSide (formatWord s.config.ecl k.toNat) s.grid
    fmtbits := formatWord s.config.ecl k.toNat }

/-- R395. -/
def fmtwriteBody (k : BitVec 3) (s : State) : Body :=
  staged (s.gridstat.valid && s.gridstat.sFmt) (s.doFmtwrite k)

/-- FMTWRITE k (R395). -/
def execFmtwrite (k : BitVec 3) (s : State) : Host.Outcome State Fault Refusal :=
  finish s (fmtwriteBody k s)

/-- R398. -/
def verencBody (s : State) : Body :=
  if legalVersion s.versionNat then .ok { s with verbits := versionWord s.versionNat }
  else raiseError .range

/-- VERENC (R398). -/
def execVerenc (s : State) : Host.Outcome State Fault Refusal := finish s (verencBody s)

/-- The writes of VERWRITE (R400): VERBITS = 0 where no version information is written. -/
def State.doVerwrite (s : State) : State :=
  { s with
    grid := writeVersion s.gverNat s.gridSide s.grid
    verbits := if 7 ≤ s.gverNat then versionWord s.gverNat else 0 }

/-- R400. -/
def verwriteBody (s : State) : Body :=
  staged (s.gridstat.valid && s.gridstat.sVer) s.doVerwrite

/-- VERWRITE (R400). -/
def execVerwrite (s : State) : Host.Outcome State Fault Refusal := finish s (verwriteBody s)

/-- `mask_k` on the data region, without the flag updates of MASKAPPLY (R402). -/
def State.doMask (s : State) (T : QrTables) (k : BitVec 3) : State :=
  { s with grid := maskGrid T k.toNat s.gridSide s.grid }

/-- The flags FINALIZE leaves (R402). -/
def State.markFinal (s : State) : State :=
  { s with gridstat := { s.gridstat with final := true, sel := false } }

/-- R402. -/
def finalizeBody (T : QrTables) (s : State) : Body :=
  staged s.gridstat.readyFinalize
    (((s.doMask T s.masksel).doFmtwrite s.masksel).doVerwrite).markFinal

/-- FINALIZE (R402). -/
def execFinalize (s : State) : Host.Outcome State Fault Refusal := finish s (finalizeBody qrTables s)

end Sys2Proof.Machine
end

