-- ==== Sys2Proof/Machine/Control.lean ====
section
/-! DEFINITION. The control commands (45_control.md): NOP (R450) and the composite ENCODE (R451). -/

namespace Sys2Proof.Machine

/-- NOP (R450): nothing but completion. -/
def execNop (s : State) : Host.Outcome State Fault Refusal := finish s (.ok s)

/-- R451: the bodies of the stages in order, each with its own checks; the three checks of ENCODE are the
first checks of INTERLEAVE, in the same order. -/
def encodeBody (T : QrTables) (s : State) : Body :=
  (interleaveBody T s).bind fun s₁ =>
  (gridinitBody s₁).bind fun s₂ =>
  (stampAllBody T s₂).bind fun s₃ =>
  (placeBody s₃).bind fun s₄ =>
  (selectBody T s₄).bind (finalizeBody T)

/-- ENCODE (R451): one atomic command, so on an error nothing of any stage remains. -/
def execEncode (s : State) : Host.Outcome State Fault Refusal := finish s (encodeBody qrTables s)

end Sys2Proof.Machine
end

