-- ==== Sys2Proof/Machine/Dispatch.lean ====
section
/-! DEFINITION. One arm per command: exec performs the command and completes it (R61). -/

namespace Sys2Proof.Machine

def exec (i : Instr) (s : State) : Host.Outcome State Fault Refusal :=
  match i with
  | .nop => Sys2Proof.Machine.execNop s
  | .gfmul => Sys2Proof.Machine.execGfmul s
  | .polyeval => Sys2Proof.Machine.execPolyeval s
  | .rsgen => Sys2Proof.Machine.execRsgen s
  | .rsrem => Sys2Proof.Machine.execRsrem s
  | .syndrome => Sys2Proof.Machine.execSyndrome s
  | .capq => Sys2Proof.Machine.execCapq s
  | .interleave => Sys2Proof.Machine.execInterleave s
  | .gridinit => Sys2Proof.Machine.execGridinit s
  | .stampFinder => Sys2Proof.Machine.execStampFinder s
  | .stampSep => Sys2Proof.Machine.execStampSep s
  | .stampTiming => Sys2Proof.Machine.execStampTiming s
  | .stampAlign => Sys2Proof.Machine.execStampAlign s
  | .reserveFmt => Sys2Proof.Machine.execReserveFmt s
  | .reserveVer => Sys2Proof.Machine.execReserveVer s
  | .stampAll => Sys2Proof.Machine.execStampAll s
  | .place => Sys2Proof.Machine.execPlace s
  | .maskapply k => Sys2Proof.Machine.execMaskapply k s
  | .score k => Sys2Proof.Machine.execScore k s
  | .select => Sys2Proof.Machine.execSelect s
  | .fmtenc k => Sys2Proof.Machine.execFmtenc k s
  | .fmtwrite k => Sys2Proof.Machine.execFmtwrite k s
  | .verenc => Sys2Proof.Machine.execVerenc s
  | .verwrite => Sys2Proof.Machine.execVerwrite s
  | .finalize => Sys2Proof.Machine.execFinalize s
  | .encode => Sys2Proof.Machine.execEncode s

end Sys2Proof.Machine
end

