-- ==== Sys2Proof/Machine/Bus.lean ====
section
/-! DEFINITION. The host's bus: the register map (R54), the address map (R121), what a host read returns
and what a host write does, Idle and Busy (R122 to R128), the byte lanes (R123), and reset (R550). -/

namespace Sys2Proof.Machine

/-- The registers of R54 by name. -/
inductive Reg where
  | id | cmd | status | config | opa | opb | opc | result | dlen | cwlen | glen | gridstat
  | capblk | capecc | capraw | capdata | capshort | masksel | fmtbits | verbits
  | pen (k : BitVec 3)
  deriving DecidableEq, Repr

/-- The offset of a register (R54). -/
def Reg.offset : Reg → Nat
  | .id => 0x000
  | .cmd => 0x004
  | .status => 0x008
  | .config => 0x00C
  | .opa => 0x010
  | .opb => 0x014
  | .opc => 0x018
  | .result => 0x01C
  | .dlen => 0x020
  | .cwlen => 0x024
  | .glen => 0x028
  | .gridstat => 0x02C
  | .capblk => 0x030
  | .capecc => 0x034
  | .capraw => 0x038
  | .capdata => 0x03C
  | .capshort => 0x040
  | .masksel => 0x044
  | .fmtbits => 0x048
  | .verbits => 0x04C
  | .pen k => 0x050 + 4 * k.toNat

/-- The register at an offset; an unlisted offset is unmapped (R53). -/
def Reg.ofOffset (o : Nat) : Option Reg :=
  match o with
  | 0x000 => some .id
  | 0x004 => some .cmd
  | 0x008 => some .status
  | 0x00C => some .config
  | 0x010 => some .opa
  | 0x014 => some .opb
  | 0x018 => some .opc
  | 0x01C => some .result
  | 0x020 => some .dlen
  | 0x024 => some .cwlen
  | 0x028 => some .glen
  | 0x02C => some .gridstat
  | 0x030 => some .capblk
  | 0x034 => some .capecc
  | 0x038 => some .capraw
  | 0x03C => some .capdata
  | 0x040 => some .capshort
  | 0x044 => some .masksel
  | 0x048 => some .fmtbits
  | 0x04C => some .verbits
  | _ =>
    if 0x050 ≤ o ∧ o ≤ 0x06C ∧ o % 4 = 0 then some (.pen (BitVec.ofNat 3 ((o - 0x050) / 4)))
    else none

/-- What a mapped word address holds (R121): a register, four buffer bytes, or four modules. -/
inductive Target where
  | reg (r : Reg)
  | buf (b : Buf) (i : Nat)
  | grid (r c : Nat)
  deriving DecidableEq, Repr

/-- The address map (R121). -/
def mapAddress (a : Nat) : Option Target :=
  if a < 0x01000 then (Reg.ofOffset a).map .reg
  else if a < 0x02000 then some (.buf .dbuf (a - 0x01000))
  else if a < 0x03000 then some (.buf .cwbuf (a - 0x02000))
  else if a < 0x03100 then some (.buf .gpoly (a - 0x03000))
  else if a < 0x03200 then some (.buf .rembuf (a - 0x03100))
  else if a < 0x10000 then none
  else if a < 0x20000 then some (.grid ((a - 0x10000) / 256) ((a - 0x10000) % 256))
  else none

/-- A legal access is one aligned 32-bit word of a mapped address (R122, R126). -/
def accessTarget (width addr : Nat) : Option Target :=
  if width = 4 ∧ addr % 4 = 0 then mapAddress addr else none

/-- ID (R55): hard-wired. -/
def idWord : Word := 0x51520007

/-- PENk. -/
def State.penAt (s : State) (k : BitVec 3) : Word := s.pen[k.toNat]'(by have := k.isLt; omega)

/-- A register's value as the host reads it, RAZ bits as zero (R53 to R66). -/
def State.readReg (s : State) : Reg → Word
  | .id => idWord
  | .cmd => s.cmd
  | .status => s.statusWord
  | .config => ((eccToBits s.config.ecl).setWidth 32 <<< 8) ||| s.config.version.setWidth 32
  | .opa => s.opa
  | .opb => s.opb
  | .opc => s.opc
  | .result => s.result
  | .dlen => s.dlen
  | .cwlen => s.cwlen
  | .glen => s.glen.setWidth 32
  | .gridstat => s.gridstat.word
  | .capblk => s.capblk.setWidth 32
  | .capecc => s.capecc.setWidth 32
  | .capraw => s.capraw.setWidth 32
  | .capdata => s.capdata.setWidth 32
  | .capshort => s.capshort.shortLen ++ s.capshort.numShort
  | .masksel => s.masksel.setWidth 32
  | .fmtbits => s.fmtbits.setWidth 32
  | .verbits => s.verbits.setWidth 32
  | .pen k => s.penAt k

/-- A host write to a register while Idle (R125): CMD issues, STATUS bit 8 clears OVERRUN, RW fields
are stored, everything else is ignored. -/
def State.writeReg (s : State) (r : Reg) (v : Word) : State :=
  match r with
  | .cmd => s.issue v
  | .status => if v.getLsbD 8 then { s with status := { s.status with overrun := false } } else s
  | .config =>
    { s with config := { version := v.extractLsb' 0 6, ecl := eccOfBits (v.extractLsb' 8 2) } }
  | .opa => { s with opa := v }
  | .opb => { s with opb := v }
  | .opc => { s with opc := v }
  | .dlen => { s with dlen := v }
  | .cwlen => { s with cwlen := v }
  | .id => s
  | .result => s
  | .glen => s
  | .gridstat => s
  | .capblk => s
  | .capecc => s
  | .capraw => s
  | .capdata => s
  | .capshort => s
  | .masksel => s
  | .fmtbits => s
  | .verbits => s
  | .pen _ => s

/-- Byte lane `j` of a word: bits `[8j+7 : 8j]` (R123). -/
def laneByte (w : Word) (j : Nat) : Byte := w.extractLsb' (8 * j) 8

/-- The word whose lanes hold the four bytes, lane 0 first (R123). -/
def laneWord (b0 b1 b2 b3 : Byte) : Word := b3 ++ b2 ++ b1 ++ b0

/-- The code of a tag in the grid window (R70). -/
def Tag.code : Tag → BitVec 3
  | .unset => 0
  | .light => 1
  | .dark => 2
  | .reservedFormat => 3
  | .reservedVersion => 4

/-- The byte the grid window shows for a module (R127): `{fn, 0000, code}` inside the symbol of a valid
grid, else 0. -/
def State.gridByte (s : State) (r c : Nat) : Byte :=
  if s.gridstat.valid ∧ r < s.gridSide ∧ c < s.gridSide then
    let m := s.grid.read r c
    BitVec.ofBool m.fn ++ (0 : BitVec 4) ++ m.tag.code
  else 0

/-- The word the grid window shows at the module `(r, c)` and the three to its right (R123, R127). -/
def State.gridWord (s : State) (r c : Nat) : Word :=
  laneWord (s.gridByte r c) (s.gridByte r (c + 1)) (s.gridByte r (c + 2)) (s.gridByte r (c + 3))

/-- Buffer byte `i` as a host read sees it: an unwritten byte is the free value of draw `d` (R68, U1). -/
def State.hostByte (s : State) (b : Buf) (i d : Nat) : Byte :=
  (s.readByte b i).getD (Config.drawByte d)

/-- The word a host read of a buffer returns (R123). -/
def State.bufWord (s : State) (b : Buf) (i : Nat) : Word :=
  laneWord (s.hostByte b i s.draws) (s.hostByte b (i + 1) (s.draws + 1))
    (s.hostByte b (i + 2) (s.draws + 2)) (s.hostByte b (i + 3) (s.draws + 3))

/-- Whether the four buffer bytes from `i` on are all written. -/
def State.wordWritten (s : State) (b : Buf) (i : Nat) : Bool := (s.readBytes b i 4).isSome

/-- The host receives `w`. -/
def State.deliver (s : State) (w : Word) : State := { s with rdata := some w }

/-- A host read of a mapped word while Idle. A read changes nothing of the block (R128); a read that
shows an unwritten byte uses up four draws. -/
def State.readIdle (s : State) : Target → State
  | .reg r => s.deliver (s.readReg r)
  | .grid r c => s.deliver (s.gridWord r c)
  | .buf b i =>
    let t := s.deliver (s.bufWord b i)
    if s.wordWritten b i then t else { t with draws := s.draws + 4 }

/-- A host read of a mapped word while Busy (R124): STATUS exactly, anything else a draw. -/
def State.readBusy (s : State) (t : Target) : State :=
  if t = .reg .status then s.deliver s.statusWord
  else { s.deliver (Config.drawWord s.draws) with draws := s.draws + 1 }

/-- `MemRead(addr, width)` (R10, R122 to R128). -/
def busRead (width addr : Nat) (s : State) : Host.Outcome State Fault Refusal :=
  match accessTarget width addr with
  | none => .fault .busError
  | some t => .next (if s.isBusy then s.readBusy t else s.readIdle t)

/-- A host write of a mapped word while Idle (R123, R125). -/
def State.writeIdle (s : State) (v : Word) : Target → State
  | .reg r => s.writeReg r v
  | .grid _ _ => s
  | .buf b i =>
    if b.hostWritable then s.writeBytes b i [laneByte v 0, laneByte v 1, laneByte v 2, laneByte v 3]
    else s

/-- A host write of a mapped word while Busy (R124): ignored, and OVERRUN is set. -/
def State.writeBusy (s : State) : State := { s with status := { s.status with overrun := true } }

/-- `MemWrite(addr, width, v)` (R10, R122 to R126). -/
def busWrite (width addr : Nat) (v : Word) (s : State) : Host.Outcome State Fault Refusal :=
  match accessTarget width addr with
  | none => .fault .busError
  | some t => .next (if s.isBusy then s.writeBusy else s.writeIdle v t)

/-- Reset of the block (R550, R551): a latched command is abandoned. What the environment has yet to
do, what the host has read and the count of draws are not the block's, and stay. -/
def State.resetBlock (s : State) : State :=
  { State.reset with inputs := s.inputs, rdata := s.rdata, draws := s.draws }

/-- The host's address of a window offset (R131). -/
def platformAddress (offset : Nat) : Nat := Config.coreBase + offset

end Sys2Proof.Machine
end

