-- ==== Sys2Proof/Machine/Parameter.lean ====
section
/-! DEFINITION. The block with its table parameter `QrTables` as an argument (R7, D34, U11): the commands
under any tables, the spec's tables being the default. `exec` is this at the default
(Laws/Parameter.lean). -/

namespace Sys2Proof.Machine

/-- The commands under the tables `T` (R7, D34). A command that reads no table is its meaning; one that does
is its body under `T`. DESIGN CHOICE (log 23, unsafe): the spec states no law on `T`; where a `T` gives what
no QR symbol has (no block, more ECC than codewords, a count wider than its register, a centre below 2),
the outcome is what the definitions compute: a quotient by 0 is 0, a difference stops at 0, a register
takes the low bits. The default `qrTables` gives none of these for a version 1 to 40. -/
def execUnder (i : Instr) (s : State) (T : QrTables := qrTables) : Host.Outcome State Fault Refusal :=
  match i with
  | .nop => execNop s
  | .gfmul => execGfmul s
  | .polyeval => execPolyeval s
  | .rsgen => execRsgen s
  | .rsrem => execRsrem s
  | .syndrome => execSyndrome s
  | .capq => finish s (capqBody T s)
  | .interleave => finish s (interleaveBody T s)
  | .gridinit => execGridinit s
  | .stampFinder => execStampFinder s
  | .stampSep => execStampSep s
  | .stampTiming => execStampTiming s
  | .stampAlign => finish s (stampAlignBody T s)
  | .reserveFmt => execReserveFmt s
  | .reserveVer => execReserveVer s
  | .stampAll => finish s (stampAllBody T s)
  | .place => execPlace s
  | .maskapply k => finish s (maskapplyBody T k s)
  | .score k => finish s (scoreBody T k s)
  | .select => finish s (selectBody T s)
  | .fmtenc k => execFmtenc k s
  | .fmtwrite k => execFmtwrite k s
  | .verenc => execVerenc s
  | .verwrite => execVerwrite s
  | .finalize => finish s (finalizeBody T s)
  | .encode => finish s (encodeBody T s)

end Sys2Proof.Machine
end

