-- ==== Sys2Proof/Machine/Turn.lean ====
section
/-! DEFINITION. The turns of the agents: the engine performs its latched word (R61, R162), and each move
of the environment (R567). What a command does is an argument, `run`, so that the turns are the same under
every table parameter (R7). -/

namespace Sys2Proof.Machine

/-- What each command does. -/
abbrev Meaning := Instr → State → Host.Outcome State Fault Refusal

/-- The engine performs the latched word `w` (R61): an illegal word is Error(ILLEGAL) and nothing else
(R162), any other is its command. -/
def perform (run : Meaning) (w : Word) (s : State) : Host.Outcome State Fault Refusal :=
  match decode w with
  | .error _ => .next (s.raise .illegal)
  | .ok i => run i s

/-- The engine's turn: it performs the latched command, or has nothing to do (R73). -/
def engineTurn (run : Meaning) (s : State) : Host.Outcome State Fault Refusal :=
  match s.engine with
  | .idle => .next s
  | .busy w => perform run w s

/-- The poll of `wait` (R168): while BUSY reads 1 it is repeated, and the engine gets on with its
command (weak fairness, R565); the read that shows 0 ends it. -/
def pollTurn (run : Meaning) (rest : List Move) (s : State) : Host.Outcome State Fault Refusal :=
  if s.isBusy then engineTurn run s
  else .next ({ s with inputs := rest }.deliver s.statusWord)

/-- One move of the environment, with the moves after it. -/
def moveTurn (run : Meaning) (m : Move) (rest : List Move) (s : State) :
    Host.Outcome State Fault Refusal :=
  match m with
  | .write width addr value => busWrite width addr value { s with inputs := rest }
  | .read width addr => busRead width addr { s with inputs := rest }
  | .wait => pollTurn run rest s
  | .engine => engineTurn run { s with inputs := rest }
  | .reset => .next { s with inputs := rest }.resetBlock

/-- One step: the environment's next move, or, when none is left, the engine's turn (R565: a latched
command is eventually performed). -/
def stepBy (run : Meaning) (s : State) : Host.Outcome State Fault Refusal :=
  match s.inputs with
  | [] => engineTurn run s
  | m :: rest => moveTurn run m rest s

/-- One step of the block under the tables `T` (R7, D34). -/
def stepUnder (s : State) (T : QrTables := qrTables) : Host.Outcome State Fault Refusal :=
  stepBy (fun i t => execUnder i t T) s

/-- The state in which the engine's turn comes next with `w` latched, as a host write of `w` to CMD
while Idle leaves it (R60). -/
def State.withLatched (s : State) (w : Word) : State :=
  { s.issue w with inputs := .engine :: s.inputs }

end Sys2Proof.Machine
end

