-- ==== Sys2Proof/Machine/Step.lean ====
section
/-! DEFINITION. One step of the machine, its commands being `exec`. -/

namespace Sys2Proof.Machine

def step (s : State) : Host.Outcome State Fault Refusal := stepBy exec s

/-- The state whose very next step performs the command word `w`. -/
def State.withFetchWord (s : State) (nbits w : Nat) : State :=
  s.withLatched (BitVec.ofNat 32 (w % 2 ^ nbits))

end Sys2Proof.Machine
end

