-- ==== Sys2Proof/Machine/Script.lean ====
section
/-! DEFINITION. The host script language (R168) and its pseudo-instructions (R169), each expanded to the
moves it stands for. Addresses are offsets from CORE_BASE. -/

namespace Sys2Proof.Machine

/-- The statements of R168 and the pseudo-instructions of R169. DESIGN CHOICE (log 25, safe): `cmd` and `exec`
name a command of R165 with the K it takes, so a K on a mnemonic that takes none, an illegal word by R162, is
written `wr CMD, w`; R168 names no such restriction. -/
inductive Stmt where
  /-- `wr NAME, v` -/
  | wr (r : Reg) (v : Word)
  /-- `wr @a, v` -/
  | wrAt (a : Nat) (v : Word)
  /-- `rd NAME` -/
  | rd (r : Reg)
  /-- `rd @a` -/
  | rdAt (a : Nat)
  /-- `cmd MNEMONIC k` -/
  | cmd (i : Instr)
  /-- `wait` -/
  | wait
  /-- `exec MNEMONIC k` -/
  | exec (i : Instr)
  /-- `UNMASK k` -/
  | unmask (k : BitVec 3)
  /-- `ldbytes @a, b0, b1, ...` -/
  | ldbytes (a : Nat) (bytes : List Byte)
  /-- `clrovr` -/
  | clrovr
  /-- `setcfg V, E` -/
  | setcfg (v : BitVec 6) (e : EccLevel)
  deriving DecidableEq, Repr

/-- The word writes of `ldbytes`, missing bytes taken as 0 (R169). -/
def loadMoves (a : Nat) : List Byte → List Move
  | [] => []
  | [b0] => [.write 4 a (laneWord b0 0 0 0)]
  | [b0, b1] => [.write 4 a (laneWord b0 b1 0 0)]
  | [b0, b1, b2] => [.write 4 a (laneWord b0 b1 b2 0)]
  | b0 :: b1 :: b2 :: b3 :: bs => .write 4 a (laneWord b0 b1 b2 b3) :: loadMoves (a + 4) bs

/-- `cmd MNEMONIC k` (R168): a write of the command word to CMD. -/
def cmdMove (i : Instr) : Move := .write 4 Reg.cmd.offset (encode i)

/-- The moves a statement stands for (R168, R169). -/
def Stmt.moves : Stmt → List Move
  | .wr r v => [.write 4 r.offset v]
  | .wrAt a v => [.write 4 a v]
  | .rd r => [.read 4 r.offset]
  | .rdAt a => [.read 4 a]
  | .cmd i => [cmdMove i]
  | .wait => [.wait]
  | .exec i => [cmdMove i, .wait]
  | .unmask k => [cmdMove (.maskapply k), .wait]
  | .ldbytes a bytes => loadMoves a bytes
  | .clrovr => [.write 4 Reg.status.offset 0x100]
  | .setcfg v e =>
    [.write 4 Reg.config.offset (((eccToBits e).setWidth 32 <<< 8) ||| v.setWidth 32)]

/-- The moves of a whole script. -/
def scriptMoves (p : List Stmt) : List Move := p.flatMap Stmt.moves

/-- A host that begins to run the script. -/
def State.withScript (s : State) (p : List Stmt) : State := { s with inputs := scriptMoves p }

end Sys2Proof.Machine
end

