-- ==== Sys2Proof/Safety.lean ====
section
/-! DEFINITION. What a safe run is, in the terms claims use: runs without a model fault (R505), the end
of a run (R568), and the two invariants of reachable states. -/

namespace Sys2Proof.Machine

/-- The step goes on: it raises no model fault and is not refused (R505). -/
def State.safe (s : State) : Prop := ∃ t, step s = .next t

/-- `t` is reached from `s` by steps that all go on. -/
inductive Reaches : State → State → Prop where
  | refl (s : State) : Reaches s s
  | tail {s t u : State} : Reaches s t → step t = .next u → Reaches s u

/-- A run has ended (R568): no move is left and the engine is Idle. -/
def State.ended (s : State) : Bool := s.inputs.isEmpty && !s.isBusy

/-- Whether an ended run counts as having produced a symbol: FINAL is set. R568 says that a run ending with
FINAL = 0 has produced none, and of ENCODE's grid with FINAL = 1 that it is the renderer's input. That every
ended run with FINAL = 1 counts is a DESIGN CHOICE (log 24, unsafe): by R395 and R562 a FMTWRITE of another
mask leaves FINAL set on a grid that is no conformant symbol. -/
def State.producedSymbol (s : State) : Bool := s.ended && s.gridstat.final

/-- What every reachable state satisfies of the registers, the engine and the storage. -/
structure State.BlockInv (s : State) : Prop where
  /-- memory is in its canonical form -/
  memCanonical : s.mem.wf = true
  /-- written bytes are bytes of the four buffers (R67, R121) -/
  memInBuffers : ∀ a, s.mem.read a ≠ none → 0x01000 ≤ a ∧ a < 0x03200
  /-- the grid is in its canonical form -/
  gridCanonical : s.grid.wf = true
  /-- modules outside the symbol, or while there is none, are never written (R69) -/
  gridInSymbol : ∀ r c, s.grid.read r c ≠ GridCell.blank →
    s.gridstat.valid = true ∧ r < s.gridSide ∧ c < s.gridSide
  /-- while Busy, CMD holds the latched word, and DONE and ERR are clear (R57, R60) -/
  latchedIsCmd : ∀ w, s.engine = .busy w →
    s.cmd = w ∧ s.status.done = false ∧ s.status.err = false
  /-- ERR = 0 implies ERRCODE = 0 (R57) -/
  errcodeZero : s.status.err = false → s.status.errcode = 0
  /-- codes 3 and 7 to 15 are never produced (R501) -/
  errcodeListed : s.status.err = true → s.status.errcode ∈ [1, 2, 4, 5, 6]
  /-- GLEN holds 0..255 (R62) -/
  divisorDegree : s.glen.toNat ≤ 255
  /-- the divisor's bytes are written (R210) -/
  divisorWritten : ∀ i, i < s.glen.toNat → s.readByte .gpoly i ≠ none
  /-- RESULT bits [31:8] are zero (R66) -/
  resultByte : s.result.toNat < 256
  /-- without a valid grid every field of GRIDSTAT is 0 (R59, R301) -/
  noGrid : s.gridstat.valid = false → s.gridstat = GridStat.reset
  /-- a valid grid was allocated for a legal version (R59, R301) -/
  gridVersion : s.gridstat.valid = true → 1 ≤ s.gridstat.gver.toNat ∧ s.gridstat.gver.toNat ≤ 40
  /-- stages are done in order (R303, R354, R388, R402) -/
  sepAfterFinder : s.gridstat.sSep = true → s.gridstat.sFinder = true
  timingAfterSep : s.gridstat.sTiming = true → s.gridstat.sSep = true
  alignAfterTiming : s.gridstat.sAlign = true → s.gridstat.sTiming = true
  fmtAfterAlign : s.gridstat.sFmt = true → s.gridstat.sAlign = true
  verAfterFmt : s.gridstat.sVer = true → s.gridstat.sFmt = true
  placedAfterVer : s.gridstat.placed = true → s.gridstat.sVer = true
  selAfterPlaced : s.gridstat.sel = true → s.gridstat.placed = true
  finalAfterPlaced : s.gridstat.final = true → s.gridstat.placed = true

/-- `(r, c)` is a format module of the grid in hand (R317). -/
def State.isFormatModule (s : State) (r c : Nat) : Prop :=
  ∃ i, i < 15 ∧ ((r, c) = formatF1 i ∨ (r, c) = formatF2 s.gridSide i)

/-- `(r, c)` is a version module of the grid in hand (R321). -/
def State.isVersionModule (s : State) (r c : Nat) : Prop :=
  7 ≤ s.gverNat ∧ ∃ i, i < 18 ∧ ((r, c) = versionVA s.gridSide i ∨ (r, c) = versionVB s.gridSide i)

/-- What every reachable state satisfies of the grid's modules, stage by stage. -/
structure State.StageInv (s : State) : Prop where
  /-- a function module is never Unset (R302) -/
  functionTagged : ∀ r c, (s.grid.read r c).fn = true → (s.grid.read r c).tag ≠ .unset
  /-- before PLACE, data modules are Unset (R327) -/
  dataUnset : s.gridstat.placed = false →
    ∀ r c, (s.grid.read r c).fn = false → (s.grid.read r c).tag = .unset
  /-- after the timing stamp, row 6 and column 6 are function modules (R311) -/
  timingStamped : s.gridstat.sTiming = true → ∀ i, i < s.gridSide →
    (s.grid.read 6 i).fn = true ∧ (s.grid.read i 6).fn = true
  /-- after RESERVE_FMT, the format modules are function modules (R319) -/
  formatStamped : s.gridstat.sFmt = true → ∀ r c, s.isFormatModule r c → (s.grid.read r c).fn = true
  /-- after RESERVE_VER, the version modules are function modules (R322) -/
  versionStamped : s.gridstat.sVer = true → ∀ r c, s.isVersionModule r c → (s.grid.read r c).fn = true
  /-- ReservedFormat stands on format modules only, and on function modules (R317, R319) -/
  reservedFormat : ∀ r c, (s.grid.read r c).tag = .reservedFormat →
    s.isFormatModule r c ∧ (s.grid.read r c).fn = true
  /-- ReservedVersion stands on version modules only, and on function modules (R321, R322) -/
  reservedVersion : ∀ r c, (s.grid.read r c).tag = .reservedVersion →
    s.isVersionModule r c ∧ (s.grid.read r c).fn = true
  /-- once placed, no module of the symbol is Unset (R355) -/
  placedComplete : s.gridstat.placed = true → ∀ r c, r < s.gridSide → c < s.gridSide →
    (s.grid.read r c).tag ≠ .unset
  /-- once final, every module of the symbol is Light or Dark (R403) -/
  finalLightDark : s.gridstat.final = true → ∀ r c, r < s.gridSide → c < s.gridSide →
    (s.grid.read r c).tag = .light ∨ (s.grid.read r c).tag = .dark

end Sys2Proof.Machine
end

