-- ==== Sys2Proof/Certificates/Slice0/Obligations.lean ====
section
/-! DEFINITION. The statements for the provers. The helpers of Claims say in their own words what the
rules say, so that a statement does not lean on the definition it is about. -/

namespace Sys2Proof.Claims

open Sys2Proof.Machine

/-- `t` after a completion without error (R61): engine Idle, DONE, no ERR, ERRCODE 0. -/
def completed (t : State) : State :=
  { t with
    engine := .idle
    status := { done := true, err := false, errcode := 0, overrun := t.status.overrun } }

/-- `s` after a completion with an error (R61, R500): nothing but STATUS and the engine changes. -/
def failed (s : State) (code : BitVec 4) : State :=
  { s with
    engine := .idle
    status := { done := true, err := true, errcode := code, overrun := s.status.overrun } }

/-- The bytes `xs` stand written in buffer `b` from index `off` on (R68). -/
def Holds (s : State) (b : Buf) (off : Nat) (xs : List Byte) : Prop :=
  ∀ j, (h : j < xs.length) → s.readByte b (off + j) = some xs[j]

/-- Memory `m` is `s`'s memory with `xs` written from window address `a` on, every other byte as before. -/
def WrittenAt (s : State) (m : Memory) (a : Nat) (xs : List Byte) : Prop :=
  (∀ j, (h : j < xs.length) → m.read (a + j) = some xs[j]) ∧
  ∀ x, ¬ (a ≤ x ∧ x < a + xs.length) → m.read x = s.mem.read x

/-- Commands issued one after another, stopping at the first error or fault. -/
def sequence : List Instr → State → Host.Outcome State Fault Refusal
  | [], s => .next s
  | i :: is, s =>
    match exec i s with
    | .next t => if t.status.err then .next t else sequence is t
    | o => o

/-- `|a - b|`. -/
def distance (a b : Nat) : Nat := max a b - min a b

/-- The tag of a concentric ring: Light on ring `light`, else Dark. -/
def ringTag (light d : Nat) : Tag := if d = light then .light else .dark

/-- R305: what the finder stamp asks for at `(r, c)`. -/
def finderSpec (n r c : Nat) : Option Tag :=
  if r < 7 ∧ c < 7 then some (ringTag 2 (max (distance r 3) (distance c 3)))
  else if n - 7 ≤ r ∧ r < n ∧ c < 7 then
    some (ringTag 2 (max (distance (r - (n - 7)) 3) (distance c 3)))
  else if r < 7 ∧ n - 7 ≤ c ∧ c < n then
    some (ringTag 2 (max (distance r 3) (distance (c - (n - 7)) 3)))
  else none

/-- R308: what the separator stamp asks for at `(r, c)`. -/
def separatorSpec (n r c : Nat) : Option Tag :=
  if (r = 7 ∧ c ≤ 7) ∨ (c = 7 ∧ r ≤ 7) ∨ (r = n - 8 ∧ c ≤ 7) ∨ (c = 7 ∧ n - 8 ≤ r ∧ r < n) ∨
      (r = 7 ∧ n - 8 ≤ c ∧ c < n) ∨ (c = n - 8 ∧ r ≤ 7) then some .light
  else none

/-- R311: what the timing stamp asks for at `(r, c)`. -/
def timingSpec (n r c : Nat) : Option Tag :=
  if r = 6 ∧ c < n then some (if c % 2 = 0 then .dark else .light)
  else if c = 6 ∧ r < n then some (if r % 2 = 0 then .dark else .light)
  else none

/-- R317, R318: what the format reservation asks for at `(r, c)`. -/
def formatSpec (n r c : Nat) : Option Tag :=
  if (c = 8 ∧ (r ≤ 5 ∨ r = 7 ∨ r = 8)) ∨ (r = 8 ∧ (c ≤ 5 ∨ c = 7)) ∨
      (r = 8 ∧ n - 8 ≤ c ∧ c < n) ∨ (c = 8 ∧ n - 7 ≤ r ∧ r < n) then some .reservedFormat
  else if r = n - 8 ∧ c = 8 then some .dark
  else none

/-- R321: what the version reservation asks for at `(r, c)`. -/
def versionSpec (v n r c : Nat) : Option Tag :=
  if 7 ≤ v ∧ ((r ≤ 5 ∧ n - 11 ≤ c ∧ c ≤ n - 9) ∨ (n - 11 ≤ r ∧ r ≤ n - 9 ∧ c ≤ 5)) then
    some .reservedVersion
  else none

/-- R302: a function module stays; any other module takes the tag asked for, and the function bit. -/
def stampedCell (m : GridCell) : Option Tag → GridCell
  | none => m
  | some t => if m.fn then m else { tag := t, fn := true }

/-- R303: a stamp command with its requirement, its flag and its region. -/
def StampCommand (i : Instr) (ready : GridStat → Bool) (mark : GridStat → GridStat)
    (region : State → Nat → Nat → Option Tag) : Prop :=
  (∀ s : State, ready s.gridstat = true → ∃ g : Grid,
    exec i s = .next (completed { s with grid := g, gridstat := mark s.gridstat }) ∧
    ∀ r c, g.read r c = stampedCell (s.grid.read r c) (region s r c)) ∧
  ∀ s : State, ready s.gridstat = false → exec i s = .next (failed s 6)

/-- R380: the condition for `mask_k(r, c) = 1`. -/
def maskCondition (k : BitVec 3) (r c : Nat) : Bool :=
  match k.toNat with
  | 0 => decide ((r + c) % 2 = 0)
  | 1 => decide (r % 2 = 0)
  | 2 => decide (c % 3 = 0)
  | 3 => decide ((r + c) % 3 = 0)
  | 4 => decide ((r / 2 + c / 3) % 2 = 0)
  | 5 => decide ((r * c) % 2 + (r * c) % 3 = 0)
  | 6 => decide (((r * c) % 2 + (r * c) % 3) % 2 = 0)
  | _ => decide (((r + c) % 2 + (r * c) % 3) % 2 = 0)

/-- R381: a module under mask `k` in a symbol of side `n`. -/
def maskedCell (k : BitVec 3) (n r c : Nat) (m : GridCell) : GridCell :=
  if r < n ∧ c < n ∧ m.fn = false ∧ maskCondition k r c = true then
    { tag := if m.tag = .dark then .light else .dark, fn := m.fn }
  else m

/-- R317: `F1[i]`. -/
def f1 (i : Nat) : Nat × Nat :=
  if i < 6 then (i, 8) else if i = 6 then (7, 8) else if i = 7 then (8, 8)
  else if i = 8 then (8, 7) else (8, 14 - i)

/-- R317: `F2[i]`. -/
def f2 (n i : Nat) : Nat × Nat := if i < 8 then (8, n - 1 - i) else (n - 15 + i, 8)

/-- R321: `VA[i]`. -/
def va (n i : Nat) : Nat × Nat := (i / 3, n - 11 + i % 3)

/-- R321: `VB[i]`. -/
def vb (n i : Nat) : Nat × Nat := (n - 11 + i % 3, i / 3)

/-- Dark if the bit is 1, Light if 0 (R391, R399). -/
def darkIf (b : Bool) : Tag := if b then .dark else .light

/-- `g'` is `g` with bit `i` of `w` written as a tag at `p i` and `q i` for every `i` below `len`, function
bits as they were, and every other module as it was (R395, R400). -/
def BitsWritten (g g' : Grid) (len : Nat) (w : Nat → Bool) (p q : Nat → Nat × Nat) : Prop :=
  (∀ i, i < len →
    g'.read (p i).1 (p i).2 = { g.read (p i).1 (p i).2 with tag := darkIf (w i) } ∧
    g'.read (q i).1 (q i).2 = { g.read (q i).1 (q i).2 with tag := darkIf (w i) }) ∧
  ∀ r c, (∀ i, i < len → (r, c) ≠ p i ∧ (r, c) ≠ q i) → g'.read r c = g.read r c

/-- The carry-less product of two bytes, as a polynomial over GF(2) of degree at most 14 (R200). -/
def polyProduct (x y : Byte) : BitVec 16 :=
  (List.range 8).foldl
    (fun acc i => acc ^^^ (if y.getLsbD i then x.setWidth 16 <<< i else 0)) 0

/-- The remainder of a polynomial of degree at most 14 by t^8 + t^4 + t^3 + t^2 + 1 (R200). -/
def polyReduce (p : BitVec 16) : BitVec 16 :=
  [6, 5, 4, 3, 2, 1, 0].foldl
    (fun acc i => acc ^^^ (if acc.getLsbD (8 + i) then (0x11D : BitVec 16) <<< i else 0)) p

/-- `x` multiplied by itself `n` times. -/
def fieldPower (x : Byte) : Nat → Byte
  | 0 => 1
  | n + 1 => gfmul (fieldPower x n) x

/-- The sum of field elements. -/
def fieldSum (xs : List Byte) : Byte := xs.foldr (fun a b => a ^^^ b) 0

/-- How many bits of two words differ. -/
def hamming {w : Nat} (a b : BitVec w) : Nat :=
  (List.range w).countP fun i => (a ^^^ b).getLsbD i

/-- The matrix of a function, by rows. -/
def matrixOf (n : Nat) (f : Nat → Nat → Bool) : List (List Bool) :=
  (List.range n).map fun r => (List.range n).map fun c => f r c

/-- Sum of `f` over `0 .. n-1`. -/
def sumTo (n : Nat) (f : Nat → Nat) : Nat := ((List.range n).map f).sum

/-- What the run that covers position `i` to `i + 4` of a line adds there (R383): 3 where it begins, 1
further on, so that a run of `L >= 5` adds `3 + (L - 5)`. -/
def runAt (line : Nat → Bool) (i : Nat) : Nat :=
  if line i = line (i + 1) ∧ line i = line (i + 2) ∧ line i = line (i + 3) ∧
      line i = line (i + 4) then
    (if i = 0 ∨ line (i - 1) ≠ line i then 3 else 1)
  else 0

/-- The window `A` of R385. -/
def windowA : List Bool :=
  [true, false, true, true, true, false, true, false, false, false, false]

/-- The window `B` of R385. -/
def windowB : List Bool :=
  [false, false, false, false, true, false, true, true, true, false, true]

/-- What the 11-module window from `i` on adds (R385). -/
def finderAtWindow (line : Nat → Bool) (i : Nat) : Nat :=
  (if (List.range 11).map (fun j => line (i + j)) = windowA then 40 else 0) +
  (if (List.range 11).map (fun j => line (i + j)) = windowB then 40 else 0)

/-- R252, level L, version 1 first: blocks. -/
def blocksL : List Nat :=
  [1, 1, 1, 1, 1, 2, 2, 2, 2, 4, 4, 4, 4, 4, 6, 6, 6, 6, 7, 8] ++
  [8, 9, 9, 10, 12, 12, 12, 13, 14, 15, 16, 17, 18, 19, 19, 20, 21, 22, 24, 25]

/-- R252, level L, version 1 first: ECC codewords per block. -/
def eccsL : List Nat :=
  [7, 10, 15, 20, 26, 18, 20, 24, 30, 18, 20, 24, 26, 30, 22, 24, 28, 30, 28, 28] ++
  [28, 28, 30, 30, 26, 28, 30, 30, 30, 30, 30, 30, 30, 30, 30, 30, 30, 30, 30, 30]

/-- R252, level M, version 1 first: blocks. -/
def blocksM : List Nat :=
  [1, 1, 1, 2, 2, 4, 4, 4, 5, 5, 5, 8, 9, 9, 10, 10, 11, 13, 14, 16] ++
  [17, 17, 18, 20, 21, 23, 25, 26, 28, 29, 31, 33, 35, 37, 38, 40, 43, 45, 47, 49]

/-- R252, level M, version 1 first: ECC codewords per block. -/
def eccsM : List Nat :=
  [10, 16, 26, 18, 24, 16, 18, 22, 22, 26, 30, 22, 22, 24, 24, 28, 28, 26, 26, 26] ++
  [26, 28, 28, 28, 28, 28, 28, 28, 28, 28, 28, 28, 28, 28, 28, 28, 28, 28, 28, 28]

/-- R252, level Q, version 1 first: blocks. -/
def blocksQ : List Nat :=
  [1, 1, 2, 2, 4, 4, 6, 6, 8, 8, 8, 10, 12, 16, 12, 17, 16, 18, 21, 20] ++
  [23, 23, 25, 27, 29, 34, 34, 35, 38, 40, 43, 45, 48, 51, 53, 56, 59, 62, 65, 68]

/-- R252, level Q, version 1 first: ECC codewords per block. -/
def eccsQ : List Nat :=
  [13, 22, 18, 26, 18, 24, 18, 22, 20, 24, 28, 26, 24, 20, 30, 24, 28, 28, 26, 30] ++
  [28, 30, 30, 30, 30, 28, 30, 30, 30, 30, 30, 30, 30, 30, 30, 30, 30, 30, 30, 30]

/-- R252, level H, version 1 first: blocks. -/
def blocksH : List Nat :=
  [1, 1, 2, 4, 4, 4, 5, 6, 8, 8, 11, 11, 16, 16, 18, 16, 19, 21, 25, 25] ++
  [25, 34, 30, 32, 35, 37, 40, 42, 45, 48, 51, 54, 57, 60, 63, 66, 70, 74, 77, 81]

/-- R252, level H, version 1 first: ECC codewords per block. -/
def eccsH : List Nat :=
  [17, 28, 22, 16, 22, 28, 26, 26, 24, 28, 24, 28, 22, 24, 24, 30, 28, 28, 26, 28] ++
  [30, 24, 30, 30, 30, 30, 30, 30, 30, 30, 30, 30, 30, 30, 30, 30, 30, 30, 30, 30]

/-- R252: the number of blocks of a version at a level. -/
def blockTable (v : Nat) : EccLevel → Nat
  | .l => blocksL.getD (v - 1) 0
  | .m => blocksM.getD (v - 1) 0
  | .q => blocksQ.getD (v - 1) 0
  | .h => blocksH.getD (v - 1) 0

/-- R252: the ECC codewords per block of a version at a level. -/
def eccTable (v : Nat) : EccLevel → Nat
  | .l => eccsL.getD (v - 1) 0
  | .m => eccsM.getD (v - 1) 0
  | .q => eccsQ.getD (v - 1) 0
  | .h => eccsH.getD (v - 1) 0

/-- R314: the alignment positions, version 1 first. -/
def alignmentPositions : List (List Nat) :=
  [[], [6, 18], [6, 22], [6, 26],
   [6, 30], [6, 34], [6, 22, 38], [6, 24, 42],
   [6, 26, 46], [6, 28, 50], [6, 30, 54], [6, 32, 58],
   [6, 34, 62], [6, 26, 46, 66], [6, 26, 48, 70], [6, 26, 50, 74],
   [6, 30, 54, 78], [6, 30, 56, 82], [6, 30, 58, 86], [6, 34, 62, 90]] ++
  [[6, 28, 50, 72, 94], [6, 26, 50, 74, 98], [6, 30, 54, 78, 102], [6, 28, 54, 80, 106],
   [6, 32, 58, 84, 110], [6, 30, 58, 86, 114], [6, 34, 62, 90, 118], [6, 26, 50, 74, 98, 122],
   [6, 30, 54, 78, 102, 126], [6, 26, 52, 78, 104, 130], [6, 30, 56, 82, 108, 134], [6, 34, 60, 86, 112, 138],
   [6, 30, 58, 86, 114, 142], [6, 34, 62, 90, 118, 146], [6, 30, 54, 78, 102, 126, 150], [6, 24, 50, 76, 102, 128, 154],
   [6, 28, 54, 80, 106, 132, 158], [6, 32, 58, 84, 110, 136, 162], [6, 26, 54, 82, 110, 138, 166], [6, 30, 58, 86, 114, 142, 170]]

/-- R314: the alignment positions of a version. -/
def alignmentTable (v : Nat) : List Nat := alignmentPositions.getD (v - 1) []

/-- The product of two polynomials over GF(2), bit `i` the coefficient of `x^i`; `q` has degree below 8. -/
def binaryProduct (q g : Nat) : Nat :=
  (List.range 8).foldl (fun acc i => acc ^^^ (if q.testBit i then g <<< i else 0)) 0

/-- The visit of R350: in the pair `p` from the right, step `vert`, `side` 0 the right column. The pairs
go up and down in turn, the first one up, and those left of column 6 stand one column further left. -/
def visitSpec (n p vert side : Nat) : Nat × Nat :=
  (if p % 2 = 0 then n - 1 - vert else vert,
    (if 8 ≤ n - 1 - 2 * p then n - 1 - 2 * p else n - 2 - 2 * p) - side)

/-- The bits of STATUS (R57). -/
def statusBit (s : State) (i : Nat) : Bool :=
  if i = 0 then decide (s.engine ≠ .idle) else if i = 1 then s.status.done
  else if i = 2 then s.status.err
  else if 4 ≤ i ∧ i < 8 then s.status.errcode.getLsbD (i - 4)
  else if i = 8 then s.status.overrun else false

/-- The bits of GRIDSTAT (R59). -/
def gridstatBit (g : GridStat) (i : Nat) : Bool :=
  if 16 ≤ i ∧ i < 22 then g.gver.getLsbD (i - 16)
  else ([g.valid, g.sFinder, g.sSep, g.sTiming, g.sAlign, g.sFmt, g.sVer, g.placed, g.sel,
    g.final]).getD i false

/-- R58: CONFIG.ECL as a number. -/
def eclNumber : EccLevel → Nat
  | .l => 0
  | .m => 1
  | .q => 2
  | .h => 3

/-- The words of the mapped window (R54, R121). -/
def Mapped (a : Nat) : Prop := a < 0x00070 ∨ (0x01000 ≤ a ∧ a < 0x03200) ∨ (0x10000 ≤ a ∧ a < 0x20000)

/-- The codes each command can raise (R502). -/
def listedCodes : Instr → List (BitVec 4)
  | .nop => []
  | .gfmul => [1]
  | .polyeval => [1]
  | .rsgen => [1]
  | .rsrem => [6, 1]
  | .syndrome => [1]
  | .capq => [1]
  | .interleave => [1, 2, 4]
  | .gridinit => [1]
  | .stampFinder => [6]
  | .stampSep => [6]
  | .stampTiming => [6]
  | .stampAlign => [6]
  | .reserveFmt => [6]
  | .reserveVer => [6]
  | .stampAll => [6]
  | .place => [6, 4]
  | .maskapply _ => [6]
  | .score _ => [6]
  | .select => [6]
  | .fmtenc _ => []
  | .fmtwrite _ => [6]
  | .verenc => [1]
  | .verwrite => [6]
  | .finalize => [6]
  | .encode => [1, 2, 4]

/-- GRIDSTAT after a successful ENCODE (R451): every flag but SEL. -/
def encodedStat (v : BitVec 6) : GridStat :=
  { valid := true, sFinder := true, sSep := true, sTiming := true, sAlign := true,
    sFmt := true, sVer := true, placed := true, sel := false, final := true, gver := v }

/-- The six stamp commands in order (R303). -/
def stampCommands : List Instr :=
  [.stampFinder, .stampSep, .stampTiming, .stampAlign, .reserveFmt, .reserveVer]

/-- The stages of ENCODE (R452). -/
def encodeStages : List Instr := [.interleave, .gridinit, .stampAll, .place, .select, .finalize]

end Sys2Proof.Claims

open Sys2Proof Sys2Proof.Machine Sys2Proof.Claims

/-! ### Encoding -/

/-- Decoding the word of a well-formed command gives the command back (R160, R165). -/
def Obligations.DecodeOfEncodeIsTheCommand : Prop :=
  ∀ i : Instr, i.wf = true → decode (encode i) = .ok i

/-- A word selects exactly one row of R166 if it decodes, and then it is the word of its command; it
selects none if it does not.
An inference the spec marks as its own ([derived] of R166). -/
def Obligations.RowsAreDisjointAndCoverLegalWords : Prop :=
  ∀ w : Word, match decode w with
    | .ok i => opcodeRows.countP (fun x => w &&& x.mask == x.pattern) = 1 ∧ encode i = w
    | .error _ => opcodeRows.countP (fun x => w &&& x.mask == x.pattern) = 0

/-- Words written out from R160 and R165 decode to their commands. -/
def Obligations.WordsOfTheTableDecode : Prop :=
  decode 0x00000000 = .ok .nop ∧ decode 0x00000001 = .ok .gfmul ∧
  decode 0x00000009 = .ok .interleave ∧ decode 0x00000014 = .ok .stampAlign ∧
  decode 0x00000018 = .ok .place ∧ decode 0x00000320 = .ok (.maskapply 3) ∧
  decode 0x00000721 = .ok (.score 7) ∧ decode 0x00000027 = .ok .finalize ∧
  decode 0x00000030 = .ok .encode ∧ decode 0x00000101 = .error .strayMaskIndex ∧
  decode 0x00000006 = .error .reservedOpcode ∧ decode 0x00000800 = .error .reservedBits

/-! ### Steps, issue and completion -/

/-- When the engine has its turn and its latched word decodes, the step is exec of the command. The turn
comes when no move is left, when the move is the engine's, and when the host polls: DESIGN CHOICES of the
model (log entries 3, 1 and 12). -/
def Obligations.StepPerformsTheLatchedCommand : Prop :=
  ∀ (s : State) (w : Word) (i : Instr), s.engine = .busy w → decode w = .ok i →
    (s.inputs = [] → step s = exec i s) ∧
    (∀ rest, s.inputs = .engine :: rest → step s = exec i { s with inputs := rest }) ∧
    (∀ rest, s.inputs = .wait :: rest → step s = exec i s)

/-- R162: a latched word with a reserved bit, an opcode that is not listed, or a K where none belongs
raises ILLEGAL (code 5) with no other effect, on each of the engine's turns. The three turns are DESIGN
CHOICES of the model: the engine's own move (log entry 1), the turn when no move is left (log entry 3) and
the one on the host's poll (log entry 12). -/
def Obligations.IllegalWordRaisesIllegal : Prop :=
  ∀ (s : State) (w : Word), s.engine = .busy w →
    (w.extractLsb' 11 21 ≠ 0 ∨
      w.extractLsb' 0 8 ∉ plainOpcodes ++ maskOpcodes ∨
      (w.extractLsb' 8 3 ≠ 0 ∧ w.extractLsb' 0 8 ∉ maskOpcodes)) →
    (s.inputs = [] → step s = .next (failed s 5)) ∧
    (∀ rest, s.inputs = .engine :: rest → step s = .next (failed { s with inputs := rest } 5)) ∧
    (∀ rest, s.inputs = .wait :: rest → step s = .next (failed s 5))

/-- R61: a command that answers a next state leaves the engine Idle and DONE set; if it raised an error,
nothing but STATUS changed. -/
def Obligations.CompletionIsAtomic : Prop :=
  ∀ (i : Instr) (s t : State), exec i s = .next t →
    t.engine = .idle ∧ t.status.done = true ∧ t.status.overrun = s.status.overrun ∧
    (t.status.err = false → t.status.errcode = 0) ∧
    (t.status.err = true → t = failed s t.status.errcode)

/-- R502: a command raises only the codes listed for it.
An inference the spec marks as its own ([derived] of R502). -/
def Obligations.CommandsRaiseOnlyListedCodes : Prop :=
  ∀ (i : Instr) (s t : State), exec i s = .next t → t.status.err = true →
    t.status.errcode ∈ listedCodes i

/-- R505: a command stops only for an unwritten buffer byte, only if it is one that reads buffers, and no
command is refused. -/
def Obligations.CommandsStopOnlyOnUnwrittenBytes : Prop :=
  ∀ (i : Instr) (s : State),
    (∀ f, exec i s = .fault f → f = .unwrittenBufferByte ∧
      i ∈ [.polyeval, .rsrem, .syndrome, .interleave, .place, .encode]) ∧
    ∀ r, exec i s ≠ .refused r

/-- What a command may change, register by register (R62 to R67): everything else is as it was. No
command writes DBUF, CMD, CONFIG, OPA, OPB, OPC, DLEN or OVERRUN. -/
def Obligations.CommandsWriteOnlyTheirOutputs : Prop :=
  ∀ (i : Instr) (s t : State), exec i s = .next t →
    (t.cmd = s.cmd ∧ t.config = s.config ∧ t.opa = s.opa ∧ t.opb = s.opb ∧ t.opc = s.opc ∧
      t.dlen = s.dlen ∧ t.status.overrun = s.status.overrun) ∧
    (t.inputs = s.inputs ∧ t.rdata = s.rdata ∧ t.draws = s.draws) ∧
    (∀ j, t.readByte .dbuf j = s.readByte .dbuf j) ∧
    (i ∉ [.interleave, .encode] → t.cwlen = s.cwlen ∧
      ∀ j, t.readByte .cwbuf j = s.readByte .cwbuf j) ∧
    (i ≠ .rsgen → t.glen = s.glen ∧ ∀ j, t.readByte .gpoly j = s.readByte .gpoly j) ∧
    (i ∉ [.rsrem, .syndrome] → ∀ j, t.readByte .rembuf j = s.readByte .rembuf j) ∧
    (i ∉ [.gfmul, .polyeval] → t.result = s.result) ∧
    (i ∉ [.capq, .interleave, .encode] → t.capblk = s.capblk ∧ t.capecc = s.capecc ∧
      t.capraw = s.capraw ∧ t.capdata = s.capdata ∧ t.capshort = s.capshort) ∧
    (i ∉ [.select, .encode] → t.masksel = s.masksel ∧
      ((∀ k, i ≠ .score k) → t.pen = s.pen)) ∧
    (i ∉ [.finalize, .encode] → (∀ k, i ≠ .fmtenc k ∧ i ≠ .fmtwrite k) → t.fmtbits = s.fmtbits) ∧
    (i ∉ [.verenc, .verwrite, .finalize, .encode] → t.verbits = s.verbits) ∧
    (i ∈ [.nop, .gfmul, .polyeval, .rsgen, .rsrem, .syndrome, .capq, .interleave, .select,
        .verenc] ∨ (∃ k, i = .score k ∨ i = .fmtenc k) → t.grid = s.grid ∧
      (i ≠ .select → t.gridstat = s.gridstat))

/-! ### The host's bus -/

/-- R54, R121, R122, R126: an access raises a bus error exactly when it is not one aligned 32-bit word of a mapped
address, whatever the engine does. That the map of R54 and R121 ends at 2^20 for every number is DEDUCED
(log entry 16), and that the error ends the run as a fault a DESIGN CHOICE (log entry 22). -/
def Obligations.BusErrorExactlyOnBadAccess : Prop :=
  ∀ (s : State) (width a : Nat) (rest : List Move),
    (∀ v, s.inputs = .write width a v :: rest →
      (step s = .fault .busError ↔ ¬ (width = 4 ∧ a % 4 = 0 ∧ Mapped a))) ∧
    (s.inputs = .read width a :: rest →
      (step s = .fault .busError ↔ ¬ (width = 4 ∧ a % 4 = 0 ∧ Mapped a)))

/-- R124: while Busy, a host write is ignored and sets OVERRUN, a read of STATUS is exact, and a read of
any other mapped address returns some word and changes nothing of the block. -/
def Obligations.BusyHostAccesses : Prop :=
  ∀ (s : State) (w : Word) (a : Nat) (rest : List Move), s.engine = .busy w → a % 4 = 0 → Mapped a →
    (∀ v, s.inputs = .write 4 a v :: rest →
      step s = .next { s with inputs := rest, status := { s.status with overrun := true } }) ∧
    (s.inputs = .read 4 a :: rest → a = 0x008 →
      ∃ x : Word, step s = .next { s with inputs := rest, rdata := some x } ∧
        statusBit s 0 = true ∧ ∀ i, i < 32 → x.getLsbD i = statusBit s i) ∧
    (s.inputs = .read 4 a :: rest → a ≠ 0x008 →
      ∃ (x : Word) (d : Nat), step s = .next { s with inputs := rest, rdata := some x, draws := d })

/-- R123: while Idle, a word written at a DBUF or CWBUF address writes its four bytes, lane `j` (bits
`[8j+7 : 8j]`) at `a + j`, and nothing else; and a read of a buffer word returns in lane `j` the byte at
`a + j` wherever that byte is written, whatever the other lanes hold, and changes nothing of the block (the
count of draws is the model's, log entry 4). -/
def Obligations.BufferWordsAreLittleEndian : Prop :=
  ∀ (s : State) (a : Nat) (rest : List Move), s.engine = .idle → a % 4 = 0 → 0x01000 ≤ a →
    (∀ v, s.inputs = .write 4 a v :: rest → a < 0x03000 →
      ∃ m : Memory, step s = .next { s with inputs := rest, mem := m } ∧
        (∀ j, j < 4 → m.read (a + j) = some (v.extractLsb' (8 * j) 8)) ∧
        ∀ x, ¬ (a ≤ x ∧ x < a + 4) → m.read x = s.mem.read x) ∧
    (s.inputs = .read 4 a :: rest → a < 0x03200 →
      ∃ (x : Word) (d : Nat), step s = .next { s with inputs := rest, rdata := some x, draws := d } ∧
        (∀ j b, j < 4 → s.mem.read (a + j) = some b → x.extractLsb' (8 * j) 8 = b) ∧
        ((∀ j, j < 4 → s.mem.read (a + j) ≠ none) → d = s.draws))

/-- R128: a read, Idle or Busy, changes nothing of the block: at most what the host has read and the count
of draws differ. -/
def Obligations.ReadsHaveNoSideEffect : Prop :=
  ∀ (s t : State) (width a : Nat) (rest : List Move), s.inputs = .read width a :: rest →
    step s = .next t → t = { s with inputs := rest, rdata := t.rdata, draws := t.draws }

/-- R127: while Idle, lane `j` of the word at `0x10000 + 256 r + c` shows module `(r, c + j)` as
`{fn, 0000, code}` inside the symbol of a valid grid, and 0 elsewhere. -/
def Obligations.GridWindowShowsModules : Prop :=
  ∀ (s : State) (r c : Nat) (rest : List Move), s.engine = .idle → r < 256 → c < 256 → c % 4 = 0 →
    s.inputs = .read 4 (0x10000 + 256 * r + c) :: rest →
    ∃ x : Word, step s = .next { s with inputs := rest, rdata := some x } ∧
      ∀ j, j < 4 → x.extractLsb' (8 * j) 8 =
        if s.gridstat.valid = true ∧ r < 4 * s.gridstat.gver.toNat + 17 ∧
            c + j < 4 * s.gridstat.gver.toNat + 17 then
          BitVec.ofNat 8 ((if (s.grid.read r (c + j)).fn then 128 else 0) +
            match (s.grid.read r (c + j)).tag with
            | .unset => 0
            | .light => 1
            | .dark => 2
            | .reservedFormat => 3
            | .reservedVersion => 4)
        else 0

/-- R60, R125: what a host write to each register does while Idle. -/
def Obligations.IdleRegisterWrites : Prop :=
  ∀ (s : State) (a : Nat) (v : Word) (rest : List Move), s.engine = .idle →
    s.inputs = .write 4 a v :: rest →
    (a = 0x004 → step s = .next { s with
      inputs := rest, cmd := v, engine := .busy v
      status := { done := false, err := false, errcode := 0, overrun := s.status.overrun } }) ∧
    (a = 0x008 → step s = .next { s with
      inputs := rest
      status := { s.status with overrun := s.status.overrun && !v.getLsbD 8 } }) ∧
    (a = 0x00C → ∃ cfg : SymConfig, step s = .next { s with inputs := rest, config := cfg } ∧
      { s with config := cfg }.readReg .config = v &&& 0x33F) ∧
    (a = 0x010 → step s = .next { s with inputs := rest, opa := v }) ∧
    (a = 0x014 → step s = .next { s with inputs := rest, opb := v }) ∧
    (a = 0x018 → step s = .next { s with inputs := rest, opc := v }) ∧
    (a = 0x020 → step s = .next { s with inputs := rest, dlen := v }) ∧
    (a = 0x024 → step s = .next { s with inputs := rest, cwlen := v }) ∧
    (a % 4 = 0 → Mapped a → a ∉ [0x004, 0x008, 0x00C, 0x010, 0x014, 0x018, 0x020, 0x024] →
      ¬ (0x01000 ≤ a ∧ a < 0x03000) → step s = .next { s with inputs := rest })

/-- R54 to R66: the word a host read of each register returns while Idle, every field in its place and
every reserved bit 0; and the bits of STATUS and GRIDSTAT, Idle or Busy. -/
def Obligations.RegisterReadsShowTheirFields : Prop :=
  (∀ (s : State) (a : Nat) (rest : List Move) (x : Word), s.engine = .idle →
    s.inputs = .read 4 a :: rest → step s = .next { s with inputs := rest, rdata := some x } →
    (a = 0x000 → x = 0x51520007) ∧ (a = 0x004 → x = s.cmd) ∧
    (a = 0x008 → ∀ i, i < 32 → x.getLsbD i = statusBit s i) ∧
    (a = 0x00C → x.toNat = s.config.version.toNat + 2 ^ 8 * eclNumber s.config.ecl) ∧
    (a = 0x010 → x = s.opa) ∧ (a = 0x014 → x = s.opb) ∧ (a = 0x018 → x = s.opc) ∧
    (a = 0x01C → x = s.result) ∧ (a = 0x020 → x = s.dlen) ∧ (a = 0x024 → x = s.cwlen) ∧
    (a = 0x028 → x.toNat = s.glen.toNat) ∧
    (a = 0x02C → ∀ i, i < 32 → x.getLsbD i = gridstatBit s.gridstat i) ∧
    (a = 0x030 → x.toNat = s.capblk.toNat) ∧ (a = 0x034 → x.toNat = s.capecc.toNat) ∧
    (a = 0x038 → x.toNat = s.capraw.toNat) ∧ (a = 0x03C → x.toNat = s.capdata.toNat) ∧
    (a = 0x040 → x.toNat = s.capshort.numShort.toNat + 2 ^ 16 * s.capshort.shortLen.toNat) ∧
    (a = 0x044 → x.toNat = s.masksel.toNat) ∧ (a = 0x048 → x.toNat = s.fmtbits.toNat) ∧
    (a = 0x04C → x.toNat = s.verbits.toNat) ∧
    ∀ k : Fin 8, a = 0x050 + 4 * k.val → x = s.pen[k]) ∧
  (∀ (s : State) (a : Nat) (rest : List Move), s.engine = .idle → s.inputs = .read 4 a :: rest →
    a % 4 = 0 → a < 0x00070 →
    ∃ x : Word, step s = .next { s with inputs := rest, rdata := some x }) ∧
  ∀ (s : State) (i : Nat), i < 32 → (s.readReg .status).getLsbD i = statusBit s i ∧
    (s.readReg .gridstat).getLsbD i = gridstatBit s.gridstat i

/-- R550, R551: after reset ID reads 0x51520007 and every other register 0, the engine is Idle, every
buffer byte is unwritten and every module is Unset with function bit 0; and reset can arrive in any
state, a latched command being abandoned (what the environment has yet to do, what the host has read and
the count of draws are not the block's: log entry 17). -/
def Obligations.ResetState : Prop :=
  (∀ r : Reg, State.reset.readReg r = if r = .id then 0x51520007 else 0) ∧
  State.reset.engine = .idle ∧
  (∀ b i, State.reset.readByte b i = none) ∧
  (∀ r c, State.reset.grid.read r c = { tag := .unset, fn := false }) ∧
  ∀ (s : State) (rest : List Move), s.inputs = .reset :: rest →
    ∃ t, step s = .next t ∧ t.inputs = rest ∧ { t with
      inputs := State.reset.inputs, rdata := State.reset.rdata
      draws := State.reset.draws } = State.reset

/-! ### Field and Reed-Solomon -/

/-- R200: `gfmul(x, y)` is the product of the polynomials reduced modulo 0x11D. -/
def Obligations.GfmulIsTheReducedProduct : Prop :=
  ∀ x y : Byte, gfmul x y = (polyReduce (polyProduct x y)).setWidth 8 ∧
    (polyReduce (polyProduct x y)).toNat < 256

/-- R202: the field laws, and the order of α.
An inference the spec marks as its own ([derived] of R202). -/
def Obligations.FieldLaws : Prop :=
  (∀ x y : Byte, gfmul x y = gfmul y x) ∧ (∀ x : Byte, gfmul x 0 = 0) ∧
  (∀ x : Byte, gfmul x 1 = x) ∧
  (∀ x y z : Byte, gfmul (gfmul x y) z = gfmul x (gfmul y z)) ∧
  (∀ x y z : Byte, gfmul x (y ^^^ z) = gfmul x y ^^^ gfmul x z) ∧
  (∀ x : Byte, x ≠ 0 → ∃ y, gfmul x y = 1 ∧ ∀ z, gfmul x z = 1 → z = y) ∧
  alphaPow 255 = 1 ∧ (∀ x : Byte, x ≠ 0 → ∃ i, i < 255 ∧ alphaPow i = x) ∧
  (∀ i j, i < 255 → j < 255 → alphaPow i = alphaPow j → i = j) ∧
  (List.range 16).map alphaPow =
    [0x01, 0x02, 0x04, 0x08, 0x10, 0x20, 0x40, 0x80, 0x1D, 0x3A, 0x74, 0xE8, 0xCD, 0x87, 0x13, 0x26]

/-- R201: GFMUL writes the product to RESULT, or raises RANGE when an operand exceeds 255. -/
def Obligations.GfmulResult : Prop :=
  ∀ s : State,
    (s.opa.toNat ≤ 255 → s.opb.toNat ≤ 255 → exec .gfmul s = .next (completed { s with
      result := BitVec.ofNat 32 (gfmul (BitVec.ofNat 8 s.opa.toNat)
        (BitVec.ofNat 8 s.opb.toNat)).toNat })) ∧
    (255 < s.opa.toNat ∨ 255 < s.opb.toNat → exec .gfmul s = .next (failed s 1))

/-- R205, R206: POLYEVAL writes the value of the DBUF polynomial at OPC to RESULT, which is
`b[0] x^(k-1) + ... + b[k-1]`; RANGE when OPC exceeds 255 or the range leaves DBUF; a model fault when a
byte read is unwritten. -/
def Obligations.PolyevalResult : Prop :=
  ∀ s : State,
    (∀ xs : List Byte, xs.length = s.opb.toNat → Holds s .dbuf s.opa.toNat xs →
      s.opc.toNat ≤ 255 → s.opa.toNat + s.opb.toNat ≤ 4096 →
      exec .polyeval s = .next (completed { s with
        result := BitVec.ofNat 32 (polyEval xs (BitVec.ofNat 8 s.opc.toNat)).toNat })) ∧
    (255 < s.opc.toNat ∨ 4096 < s.opa.toNat + s.opb.toNat →
      exec .polyeval s = .next (failed s 1)) ∧
    (s.opc.toNat ≤ 255 → s.opa.toNat + s.opb.toNat ≤ 4096 →
      (∃ j, j < s.opb.toNat ∧ s.readByte .dbuf (s.opa.toNat + j) = none) →
      exec .polyeval s = .fault .unwrittenBufferByte) ∧
    ∀ (b : List Byte) (x : Byte), polyEval b x =
      fieldSum ((List.range b.length).map fun j =>
        gfmul (b.getD j 0) (fieldPower x (b.length - 1 - j)))

/-- R210: RSGEN writes the divisor of degree OPA to GPOLY and the degree to GLEN, the other bytes as they
were; RANGE when the degree is outside 1..255. -/
def Obligations.RsgenResult : Prop :=
  ∀ s : State,
    (1 ≤ s.opa.toNat → s.opa.toNat ≤ 255 → ∃ m : Memory,
      exec .rsgen s = .next (completed { s with
        mem := m, glen := BitVec.ofNat 9 s.opa.toNat }) ∧
      (divisor s.opa.toNat).length = s.opa.toNat ∧
      WrittenAt s m 0x03000 (divisor s.opa.toNat)) ∧
    (s.opa.toNat < 1 ∨ 255 < s.opa.toNat → exec .rsgen s = .next (failed s 1))

/-- R211: the divisor of degree `d` has length `d`, and every α^i with `i < d` is a zero of the monic
polynomial it stands for.
An inference the spec marks as its own ([derived] of R211). -/
def Obligations.DivisorHasItsRoots : Prop :=
  ∀ d, 1 ≤ d → d ≤ 255 → (divisor d).length = d ∧
    ∀ i, i < d → polyEval (1 :: divisor d) (alphaPow i) = 0

/-- R215: RSREM writes the remainder of the DBUF data by GPOLY to REMBUF; SEQUENCE without a divisor,
then RANGE when the range leaves DBUF; a model fault when a byte read is unwritten. -/
def Obligations.RsremResult : Prop :=
  ∀ s : State,
    (∀ xs p : List Byte, xs.length = s.opb.toNat → p.length = s.glen.toNat →
      Holds s .dbuf s.opa.toNat xs → Holds s .gpoly 0 p → 1 ≤ s.glen.toNat →
      s.opa.toNat + s.opb.toNat ≤ 4096 → ∃ m : Memory,
      exec .rsrem s = .next (completed { s with mem := m }) ∧
      (remainder xs p).length = s.glen.toNat ∧ WrittenAt s m 0x03100 (remainder xs p)) ∧
    (s.glen.toNat = 0 → exec .rsrem s = .next (failed s 6)) ∧
    (1 ≤ s.glen.toNat → 4096 < s.opa.toNat + s.opb.toNat →
      exec .rsrem s = .next (failed s 1)) ∧
    (1 ≤ s.glen.toNat → s.opa.toNat + s.opb.toNat ≤ 4096 →
      (∃ j, j < s.opb.toNat ∧ s.readByte .dbuf (s.opa.toNat + j) = none) →
      exec .rsrem s = .fault .unwrittenBufferByte)

/-- R216: data followed by its remainder is a multiple of the divisor: it vanishes at every root.
An inference the spec marks as its own ([derived] of R216). -/
def Obligations.RemainderMakesACodeword : Prop :=
  ∀ (b : List Byte) (d : Nat), 1 ≤ d → d ≤ 255 → ∀ i, i < d →
    polyEval (b ++ remainder b (divisor d)) (alphaPow i) = 0

/-- R219: SYNDROME writes `S_i`, the value of the received word at α^i, to REMBUF[i] for `i < OPC`; RANGE
when OPC is outside 1..255 or the range leaves DBUF; a model fault when a byte read is unwritten. -/
def Obligations.SyndromeResult : Prop :=
  ∀ s : State,
    (∀ xs : List Byte, xs.length = s.opb.toNat → Holds s .dbuf s.opa.toNat xs →
      1 ≤ s.opc.toNat → s.opc.toNat ≤ 255 → s.opa.toNat + s.opb.toNat ≤ 4096 → ∃ m : Memory,
      exec .syndrome s = .next (completed { s with mem := m }) ∧
      WrittenAt s m 0x03100
        ((List.range s.opc.toNat).map fun i => polyEval xs (alphaPow i))) ∧
    (s.opc.toNat < 1 ∨ 255 < s.opc.toNat ∨ 4096 < s.opa.toNat + s.opb.toNat →
      exec .syndrome s = .next (failed s 1)) ∧
    (1 ≤ s.opc.toNat → s.opc.toNat ≤ 255 → s.opa.toNat + s.opb.toNat ≤ 4096 →
      (∃ j, j < s.opb.toNat ∧ s.readByte .dbuf (s.opa.toNat + j) = none) →
      exec .syndrome s = .fault .unwrittenBufferByte)

/-! ### Capacity and interleaving -/

/-- R251, R252: CAPQ writes the capacity registers, without loss, the block and ECC counts those of the
table, or raises RANGE for an illegal version. -/
def Obligations.CapqResult : Prop :=
  ∀ s : State,
    (1 ≤ s.config.version.toNat → s.config.version.toNat ≤ 40 → ∃ t,
      exec .capq s = .next t ∧
      t = completed { s with
        capblk := t.capblk, capecc := t.capecc, capraw := t.capraw, capdata := t.capdata
        capshort := t.capshort } ∧
      t.capblk.toNat = numBlocks qrTables s.config.version.toNat s.config.ecl ∧
      t.capblk.toNat = blockTable s.config.version.toNat s.config.ecl ∧
      t.capecc.toNat = eccPerBlock qrTables s.config.version.toNat s.config.ecl ∧
      t.capecc.toNat = eccTable s.config.version.toNat s.config.ecl ∧
      t.capraw.toNat = rawDataModules s.config.version.toNat ∧
      t.capdata.toNat + t.capblk.toNat * t.capecc.toNat =
        rawDataModules s.config.version.toNat / 8 ∧
      t.capshort.shortLen.toNat = rawDataModules s.config.version.toNat / 8 / t.capblk.toNat ∧
      t.capshort.numShort.toNat + rawDataModules s.config.version.toNat / 8 % t.capblk.toNat =
        t.capblk.toNat) ∧
    (s.config.version.toNat < 1 ∨ 40 < s.config.version.toNat →
      exec .capq s = .next (failed s 1))

/-- R262: INTERLEAVE writes the interleaved codewords to CWBUF, their count to CWLEN, and the capacity
registers as CAPQ does; RANGE, CAPACITY and INVARIANT in that order; a model fault on an unwritten
byte. -/
def Obligations.InterleaveResult : Prop :=
  ∀ (s : State) (v : Nat) (e : EccLevel), v = s.config.version.toNat → e = s.config.ecl →
    (∀ data : List Byte, 1 ≤ v → v ≤ 40 → s.dlen.toNat = dataCapacity qrTables v e →
      data.length = s.dlen.toNat → Holds s .dbuf 0 data → ∃ m : Memory,
      exec .interleave s = .next (completed { s with
        mem := m
        cwlen := BitVec.ofNat 32 (rawCodewords v)
        capblk := BitVec.ofNat 8 (numBlocks qrTables v e)
        capecc := BitVec.ofNat 8 (eccPerBlock qrTables v e)
        capraw := BitVec.ofNat 16 (rawDataModules v)
        capdata := BitVec.ofNat 16 (dataCapacity qrTables v e)
        capshort :=
          { numShort := BitVec.ofNat 16 (numShortBlocks qrTables v e)
            shortLen := BitVec.ofNat 16 (shortBlockLen qrTables v e) } }) ∧
      WrittenAt s m 0x02000 (interleaved qrTables v e data)) ∧
    (v < 1 ∨ 40 < v → exec .interleave s = .next (failed s 1)) ∧
    (1 ≤ v → v ≤ 40 → dataCapacity qrTables v e < s.dlen.toNat →
      exec .interleave s = .next (failed s 2)) ∧
    (1 ≤ v → v ≤ 40 → s.dlen.toNat < dataCapacity qrTables v e →
      exec .interleave s = .next (failed s 4)) ∧
    (1 ≤ v → v ≤ 40 → s.dlen.toNat = dataCapacity qrTables v e →
      (∃ j, j < s.dlen.toNat ∧ s.readByte .dbuf j = none) →
      exec .interleave s = .fault .unwrittenBufferByte)

/-- The laws of R255 and R263: `rawDataModules` lies in [208, 29648], and the interleaved codewords are
exactly `rawCodewords` many.
An inference the spec marks as its own ([derived: from rule R250], and the one of R263). -/
def Obligations.CapacityLaws : Prop :=
  ∀ (v : Nat) (e : EccLevel), 1 ≤ v → v ≤ 40 →
    (208 ≤ rawDataModules v ∧ rawDataModules v ≤ 29648) ∧
    ∀ data : List Byte, data.length = dataCapacity qrTables v e →
      (interleaved qrTables v e data).length = rawCodewords v

/-- R260, R264: where each codeword goes. With `nb` blocks of which the first `ns` are short and `sd` data
codewords in a short block, block `j` begins at data index `j sd + (j - ns)`; round `i < sd` emits data
codeword `i` of every block, the next round the last data codeword of each long block, and the rounds
after it ECC codeword `i` of every block.
An inference the spec marks as its own ([derived] of R264). -/
def Obligations.InterleaveOrder : Prop :=
  ∀ (v : Nat) (e : EccLevel) (data : List Byte) (nb ns sd el : Nat), 1 ≤ v → v ≤ 40 →
    data.length = dataCapacity qrTables v e → nb = numBlocks qrTables v e → el = eccPerBlock qrTables v e →
    ns = nb - rawDataModules v / 8 % nb → sd = rawDataModules v / 8 / nb - el →
    (∀ i j, i < sd → j < nb →
      (interleaved qrTables v e data)[i * nb + j]? = data[j * sd + (j - ns) + i]?) ∧
    (∀ j, ns ≤ j → j < nb →
      (interleaved qrTables v e data)[sd * nb + (j - ns)]? = data[j * sd + (j - ns) + sd]?) ∧
    (∀ i j, i < el → j < nb →
      (interleaved qrTables v e data)[dataCapacity qrTables v e + i * nb + j]? =
        (remainder ((data.drop (j * sd + (j - ns))).take (if j < ns then sd else sd + 1))
          (divisor el))[i]?)

/-! ### Symbol matrix -/

/-- R301: GRIDINIT makes every module Unset with function bit 0 and sets GRIDSTAT to VALID and GVER alone,
whatever grid there was; RANGE for an illegal version. -/
def Obligations.GridinitResult : Prop :=
  ∀ s : State,
    (1 ≤ s.config.version.toNat → s.config.version.toNat ≤ 40 → ∃ g : Grid,
      exec .gridinit s = .next (completed { s with
        grid := g
        gridstat := { GridStat.reset with valid := true, gver := s.config.version } }) ∧
      ∀ r c, g.read r c = { tag := .unset, fn := false }) ∧
    (s.config.version.toNat < 1 ∨ 40 < s.config.version.toNat →
      exec .gridinit s = .next (failed s 1))

/-- R305, R306: STAMP_FINDER. -/
def Obligations.StampFinderResult : Prop :=
  StampCommand .stampFinder (fun g => g.valid) (fun g => { g with sFinder := true })
    (fun s => finderSpec (4 * s.gridstat.gver.toNat + 17))

/-- R308, R309: STAMP_SEP. -/
def Obligations.StampSepResult : Prop :=
  StampCommand .stampSep (fun g => g.valid && g.sFinder) (fun g => { g with sSep := true })
    (fun s => separatorSpec (4 * s.gridstat.gver.toNat + 17))

/-- R311, R312: STAMP_TIMING. -/
def Obligations.StampTimingResult : Prop :=
  StampCommand .stampTiming (fun g => g.valid && g.sFinder && g.sSep)
    (fun g => { g with sTiming := true })
    (fun s => timingSpec (4 * s.gridstat.gver.toNat + 17))

/-- R314, R315: STAMP_ALIGN. Every module within two of a centre that is no finder corner takes the pattern's
tag, first writer wins; every other module is as it was. The grid's version is 1..40, as in every
reachable state (BlockInv). -/
def Obligations.StampAlignResult : Prop :=
  (∀ (s : State) (n : Nat), n = 4 * s.gridstat.gver.toNat + 17 →
    s.gridstat.valid = true → s.gridstat.sFinder = true → s.gridstat.sSep = true →
    s.gridstat.sTiming = true → 1 ≤ s.gridstat.gver.toNat → s.gridstat.gver.toNat ≤ 40 →
    ∃ g : Grid, exec .stampAlign s = .next (completed { s with
        grid := g, gridstat := { s.gridstat with sAlign := true } }) ∧
      (∀ a b r c, a ∈ alignmentTable s.gridstat.gver.toNat →
        b ∈ alignmentTable s.gridstat.gver.toNat →
        (a, b) ∉ [(6, 6), (6, n - 7), (n - 7, 6)] → distance r a ≤ 2 → distance c b ≤ 2 →
        g.read r c = stampedCell (s.grid.read r c)
          (some (ringTag 1 (max (distance r a) (distance c b))))) ∧
      ∀ r c, (∀ a b, a ∈ alignmentTable s.gridstat.gver.toNat →
        b ∈ alignmentTable s.gridstat.gver.toNat →
        (a, b) ∉ [(6, 6), (6, n - 7), (n - 7, 6)] → 2 < distance r a ∨ 2 < distance c b) →
        g.read r c = s.grid.read r c) ∧
  ∀ s : State, s.gridstat.valid = false ∨ s.gridstat.sFinder = false ∨ s.gridstat.sSep = false ∨
    s.gridstat.sTiming = false → exec .stampAlign s = .next (failed s 6)

/-- R317 to R319: RESERVE_FMT. -/
def Obligations.ReserveFmtResult : Prop :=
  StampCommand .reserveFmt (fun g => g.valid && g.sFinder && g.sSep && g.sTiming && g.sAlign)
    (fun g => { g with sFmt := true })
    (fun s => formatSpec (4 * s.gridstat.gver.toNat + 17))

/-- R321, R322: RESERVE_VER. -/
def Obligations.ReserveVerResult : Prop :=
  StampCommand .reserveVer
    (fun g => g.valid && g.sFinder && g.sSep && g.sTiming && g.sAlign && g.sFmt)
    (fun g => { g with sVer := true })
    (fun s => versionSpec s.gridstat.gver.toNat (4 * s.gridstat.gver.toNat + 17))

/-- R325: STAMP_ALL on a valid grid completes with what the six stamp commands give in order, and a
second one changes no module and no flag; without a valid grid it raises SEQUENCE. -/
def Obligations.StampAllIsTheSixStamps : Prop :=
  ∀ s : State,
    (s.gridstat.valid = true → ∃ t, exec .stampAll s = .next t ∧ t.status.err = false ∧
      sequence stampCommands s = .next t ∧ ∃ u, exec .stampAll t = .next u ∧
      u.status.err = false ∧ u.gridstat = t.gridstat ∧
      ∀ r c, u.grid.read r c = t.grid.read r c) ∧
    (s.gridstat.valid = false → exec .stampAll s = .next (failed s 6))

/-- R327: after GRIDINIT and STAMP_ALL exactly `rawDataModules` modules of the symbol are Unset.
An inference the spec marks as its own ([derived] of R327). -/
def Obligations.ModuleCountLaw : Prop :=
  ∀ s t : State, 1 ≤ s.config.version.toNat → s.config.version.toNat ≤ 40 →
    sequence [.gridinit, .stampAll] s = .next t →
    unsetCount (4 * s.config.version.toNat + 17) t.grid = rawDataModules s.config.version.toNat

/-! ### Placement -/

/-- R350: PLACE visits the column pairs from the right, column 6 skipped, the first pair upwards and then
down and up in turn, the right column of a pair first; so every module of the symbol outside column 6 is
visited exactly once.
That each is visited once is an inference the spec marks as its own ([derived] of R350). -/
def Obligations.VisitOrderIsTheZigzag : Prop :=
  ∀ v n, v ≤ 63 → n = 4 * v + 17 →
    (∀ p vert side, p < (n - 1) / 2 → vert < n → side < 2 →
      (visitOrder n)[p * (2 * n) + 2 * vert + side]? = some (visitSpec n p vert side)) ∧
    (visitOrder n).Nodup ∧ (visitOrder n).length = n * (n - 1) ∧
    ∀ r c, (r, c) ∈ visitOrder n ↔ r < n ∧ c < n ∧ c ≠ 6

/-- R351 to R354: PLACE. The `i`-th Unset module visited takes bit `i` of the stream, most significant bit
of each byte first, and Light after the last bit; every other module and every function bit is as it
was. SEQUENCE unless every stamp is done and the grid is not placed; INVARIANT unless CWLEN is
`rawDataModules // 8` and the Unset count is `rawDataModules`; a model fault on an unwritten byte. -/
def Obligations.PlaceResult : Prop :=
  ∀ (s : State) (n raw : Nat), n = 4 * s.gridstat.gver.toNat + 17 →
    raw = rawDataModules s.gridstat.gver.toNat →
    (∀ bytes : List Byte, s.gridstat.allStamped = true → s.gridstat.placed = false →
      s.cwlen.toNat = raw / 8 → unsetCount n s.grid = raw → bytes.length = s.cwlen.toNat →
      Holds s .cwbuf 0 bytes → ∃ g : Grid,
      exec .place s = .next (completed { s with
        grid := g, gridstat := { s.gridstat with placed := true } }) ∧
      (∀ i p, ((visitOrder n).filter fun p => (s.grid.read p.1 p.2).tag = .unset)[i]? = some p →
        g.read p.1 p.2 = { s.grid.read p.1 p.2 with
          tag := darkIf (decide (i < 8 * s.cwlen.toNat) &&
            (bytes.getD (i / 8) 0).getLsbD (7 - i % 8)) }) ∧
      ∀ r c, (s.grid.read r c).tag ≠ .unset ∨ (r, c) ∉ visitOrder n →
        g.read r c = s.grid.read r c) ∧
    (s.gridstat.allStamped = false ∨ s.gridstat.placed = true →
      exec .place s = .next (failed s 6)) ∧
    (s.gridstat.allStamped = true → s.gridstat.placed = false →
      s.cwlen.toNat ≠ raw / 8 ∨ unsetCount n s.grid ≠ raw → exec .place s = .next (failed s 4)) ∧
    (s.gridstat.allStamped = true → s.gridstat.placed = false → s.cwlen.toNat = raw / 8 →
      unsetCount n s.grid = raw → (∃ j, j < s.cwlen.toNat ∧ s.readByte .cwbuf j = none) →
      exec .place s = .fault .unwrittenBufferByte)

/-! ### Masking, penalty, format and version -/

/-- R381: MASKAPPLY k flips exactly the data modules under the mask and clears SEL and FINAL; SEQUENCE if
the grid is not placed. -/
def Obligations.MaskapplyResult : Prop :=
  ∀ (s : State) (k : BitVec 3),
    (s.gridstat.valid = true → s.gridstat.placed = true → ∃ g : Grid,
      exec (.maskapply k) s = .next (completed { s with
        grid := g, gridstat := { s.gridstat with sel := false, final := false } }) ∧
      ∀ r c, g.read r c =
        maskedCell k (4 * s.gridstat.gver.toNat + 17) r c (s.grid.read r c)) ∧
    (s.gridstat.valid = false ∨ s.gridstat.placed = false →
      exec (.maskapply k) s = .next (failed s 6))

/-- R403: where the data modules are Light or Dark, as once the grid is placed (StageInv), MASKAPPLY k
twice leaves every module and function bit as it was, whatever the mask predicates are (R7).
An inference the spec marks as its own ([derived] of R403). -/
def Obligations.MaskingTwiceRestores : Prop :=
  ∀ (s : State) (k : BitVec 3), s.gridstat.valid = true → s.gridstat.placed = true →
    (∀ r c, r < s.gridSide → c < s.gridSide → (s.grid.read r c).fn = false →
      (s.grid.read r c).tag = .light ∨ (s.grid.read r c).tag = .dark) →
    (∃ t, sequence [.maskapply k, .maskapply k] s = .next t ∧ t.status.err = false ∧
      ∀ r c, t.grid.read r c = s.grid.read r c) ∧
    ∀ T : QrTables, ∃ t u, execUnder (.maskapply k) s T = .next t ∧
      execUnder (.maskapply k) t T = .next u ∧ u.status.err = false ∧
      ∀ r c, u.grid.read r c = s.grid.read r c

/-- R382: a candidate is the grid masked, with the format word in both format regions and, from version 7
on, the version word in both version regions. -/
def Obligations.CandidateModules : Prop :=
  ∀ (v n : Nat) (e : EccLevel) (k : BitVec 3) (g : Grid), 1 ≤ v → v ≤ 40 → n = 4 * v + 17 →
    (∀ i, i < 15 →
      ((candidate qrTables v e k.toNat g).read (f1 i).1 (f1 i).2).tag =
        darkIf ((formatWord e k.toNat).getLsbD i) ∧
      ((candidate qrTables v e k.toNat g).read (f2 n i).1 (f2 n i).2).tag =
        darkIf ((formatWord e k.toNat).getLsbD i)) ∧
    (7 ≤ v → ∀ i, i < 18 →
      ((candidate qrTables v e k.toNat g).read (va n i).1 (va n i).2).tag =
        darkIf ((versionWord v).getLsbD i) ∧
      ((candidate qrTables v e k.toNat g).read (vb n i).1 (vb n i).2).tag =
        darkIf ((versionWord v).getLsbD i)) ∧
    ∀ r c, ((candidate qrTables v e k.toNat g).read r c).fn = (g.read r c).fn ∧
      ((∀ i, i < 15 → (r, c) ≠ f1 i ∧ (r, c) ≠ f2 n i) →
        (7 ≤ v → ∀ i, i < 18 → (r, c) ≠ va n i ∧ (r, c) ≠ vb n i) →
        (candidate qrTables v e k.toNat g).read r c = maskedCell k n r c (g.read r c))

/-- R383: the run penalty, counted by the windows of five equal modules. -/
def Obligations.RunPenaltyByWindows : Prop :=
  ∀ (n : Nat) (f : Nat → Nat → Bool), penaltyRuns qrTables (matrixOf n f) =
    sumTo n (fun r => sumTo (n - 4) (runAt (fun c => f r c))) +
    sumTo n (fun c => sumTo (n - 4) (runAt (fun r => f r c)))

/-- R384, R385: the block penalty counts uniform 2x2 windows, the finder penalty the windows A and B of
every row and column. -/
def Obligations.BlockAndFinderPenaltyByWindows : Prop :=
  ∀ (n : Nat) (f : Nat → Nat → Bool),
    penaltyBlocks qrTables (matrixOf n f) =
      3 * sumTo (n - 1) (fun r => sumTo (n - 1) fun c =>
        if f r c = f r (c + 1) ∧ f r c = f (r + 1) c ∧ f r c = f (r + 1) (c + 1) then 1 else 0) ∧
    penaltyFinders qrTables (matrixOf n f) =
      sumTo n (fun r => sumTo (n - 10) (finderAtWindow (fun c => f r c))) +
      sumTo n (fun c => sumTo (n - 10) (finderAtWindow (fun r => f r c)))

/-- R386: the balance penalty, and the total below 2^32 for every symbol size.
The bound is an inference the spec marks as its own ([derived] of R386). -/
def Obligations.PenaltyTotalFits : Prop :=
  ∀ (n : Nat) (f : Nat → Nat → Bool) (dark : Nat), 1 ≤ n → n ≤ 177 →
    dark = sumTo n (fun r => sumTo n fun c => if f r c then 1 else 0) →
    penaltyBalance qrTables (matrixOf n f) =
      10 * ((distance (20 * dark) (10 * (n * n)) + (n * n - 1)) / (n * n) - 1) ∧
    penalty qrTables (matrixOf n f) = penaltyRuns qrTables (matrixOf n f) + penaltyBlocks qrTables (matrixOf n f) +
      penaltyFinders qrTables (matrixOf n f) + penaltyBalance qrTables (matrixOf n f) ∧
    penalty qrTables (matrixOf n f) < 2 ^ 32

/-- R387: SCORE k writes the penalty of candidate `k` to PENk and nothing else; SEQUENCE if the grid is
not placed. -/
def Obligations.ScoreResult : Prop :=
  ∀ (s : State) (k : BitVec 3) (n : Nat), n = 4 * s.gridstat.gver.toNat + 17 →
    (s.gridstat.valid = true → s.gridstat.placed = true → ∃ p : Vector Word 8,
      exec (.score k) s = .next (completed { s with pen := p }) ∧
      ∀ j : Fin 8, p[j] = if j.val = k.toNat then
        BitVec.ofNat 32 (penalty qrTables (matrixOf n fun r c => decide
          (((candidate qrTables s.gridstat.gver.toNat s.config.ecl k.toNat s.grid).read r c).tag = .dark)))
        else s.pen[j]) ∧
    (s.gridstat.valid = false ∨ s.gridstat.placed = false →
      exec (.score k) s = .next (failed s 6))

/-- R388: SELECT writes the penalties of all eight candidates, the least mask index of least penalty to
MASKSEL, and SEL; SEQUENCE if the grid is not placed. -/
def Obligations.SelectResult : Prop :=
  ∀ (s : State) (n : Nat) (p : Nat → Nat), n = 4 * s.gridstat.gver.toNat + 17 →
    (∀ k, p k = penalty qrTables (matrixOf n fun r c => decide
      (((candidate qrTables s.gridstat.gver.toNat s.config.ecl k s.grid).read r c).tag = .dark))) →
    (s.gridstat.valid = true → s.gridstat.placed = true →
      ∃ (pen : Vector Word 8) (best : BitVec 3),
      exec .select s = .next (completed { s with
        pen := pen, masksel := best, gridstat := { s.gridstat with sel := true } }) ∧
      (∀ j : Fin 8, pen[j] = BitVec.ofNat 32 (p j.val)) ∧
      (∀ j, j < 8 → p best.toNat ≤ p j) ∧ ∀ j, j < best.toNat → p best.toNat < p j) ∧
    (s.gridstat.valid = false ∨ s.gridstat.placed = false →
      exec .select s = .next (failed s 6))

/-- R393, R398, R450: FMTENC, VERENC and NOP write their one result register, or none. -/
def Obligations.NopAndEncodersResult : Prop :=
  ∀ s : State,
    exec .nop s = .next (completed s) ∧
    (∀ k : BitVec 3, exec (.fmtenc k) s =
      .next (completed { s with fmtbits := formatWord s.config.ecl k.toNat })) ∧
    (1 ≤ s.config.version.toNat → s.config.version.toNat ≤ 40 →
      exec .verenc s = .next (completed { s with verbits := versionWord s.config.version.toNat })) ∧
    (s.config.version.toNat < 1 ∨ 40 < s.config.version.toNat →
      exec .verenc s = .next (failed s 1))

/-- R390, R394, R397: the format words are the multiples of 0x537 with the indicator and the mask on top,
under the XOR mask, and differ in at least 7 bits, so that a word with at most 3 wrong bits is nearest to
one of them only; the version words are the multiples of 0x1F25 with the version on top, and those of
versions 7 to 40 differ in at least 8 bits.
The distances are inferences the spec marks as its own ([derived] of R394 and R397). -/
def Obligations.InformationCodeLaws : Prop :=
  (∀ (e e' : EccLevel) (k k' : BitVec 3), (e, k) ≠ (e', k') →
    7 ≤ hamming (formatWord e k.toNat) (formatWord e' k'.toNat)) ∧
  (∀ (e : EccLevel) (k : BitVec 3), ((formatWord e k.toNat ^^^ 0x5412) >>> 10).toNat =
    8 * (match e with | .l => 1 | .m => 0 | .q => 3 | .h => 2) + k.toNat) ∧
  (∀ (e : EccLevel) (k : BitVec 3), ∃ q, q < 2 ^ 5 ∧
    (formatWord e k.toNat ^^^ 0x5412).toNat = binaryProduct q 0x537) ∧
  (∀ (w : BitVec 15) (e e' : EccLevel) (k k' : BitVec 3), hamming w (formatWord e k.toNat) ≤ 3 →
    hamming w (formatWord e' k'.toNat) ≤ hamming w (formatWord e k.toNat) → (e', k') = (e, k)) ∧
  (∀ v, 1 ≤ v → v ≤ 40 → (versionWord v >>> 12).toNat = v ∧
    ∃ q, q < 2 ^ 6 ∧ (versionWord v).toNat = binaryProduct q 0x1F25) ∧
  ∀ v v', 7 ≤ v → v ≤ 40 → 7 ≤ v' → v' ≤ 40 → v ≠ v' →
    8 ≤ hamming (versionWord v) (versionWord v')

/-- R395: FMTWRITE k writes the format word into both regions and to FMTBITS; SEQUENCE if the format
regions are not reserved. -/
def Obligations.FmtwriteResult : Prop :=
  ∀ (s : State) (k : BitVec 3) (n : Nat), n = 4 * s.gridstat.gver.toNat + 17 →
    (s.gridstat.valid = true → s.gridstat.sFmt = true → ∃ g : Grid,
      exec (.fmtwrite k) s = .next (completed { s with
        grid := g, fmtbits := formatWord s.config.ecl k.toNat }) ∧
      BitsWritten s.grid g 15 (fun i => (formatWord s.config.ecl k.toNat).getLsbD i) f1 (f2 n)) ∧
    (s.gridstat.valid = false ∨ s.gridstat.sFmt = false →
      exec (.fmtwrite k) s = .next (failed s 6))

/-- R400: VERWRITE writes the version word of GVER into both regions and to VERBITS from version 7 on, and
below it changes no module and sets VERBITS to 0; SEQUENCE if the version regions are not reserved. -/
def Obligations.VerwriteResult : Prop :=
  ∀ (s : State) (v n : Nat), v = s.gridstat.gver.toNat → n = 4 * v + 17 →
    (s.gridstat.valid = true → s.gridstat.sVer = true → 7 ≤ v → ∃ g : Grid,
      exec .verwrite s = .next (completed { s with grid := g, verbits := versionWord v }) ∧
      BitsWritten s.grid g 18 (fun i => (versionWord v).getLsbD i) (va n) (vb n)) ∧
    (s.gridstat.valid = true → s.gridstat.sVer = true → v < 7 →
      exec .verwrite s = .next (completed { s with verbits := 0 })) ∧
    (s.gridstat.valid = false ∨ s.gridstat.sVer = false →
      exec .verwrite s = .next (failed s 6))

/-- R402, R403: FINALIZE leaves the candidate of the mask in MASKSEL, its format and version words in
FMTBITS and VERBITS, FINAL set and SEL clear; SEQUENCE unless the grid is placed, selected and not
final. -/
def Obligations.FinalizeResult : Prop :=
  ∀ (s : State) (v : Nat), v = s.gridstat.gver.toNat →
    (s.gridstat.valid = true → s.gridstat.placed = true → s.gridstat.sel = true →
      s.gridstat.final = false →
      exec .finalize s = .next (completed { s with
        grid := candidate qrTables v s.config.ecl s.masksel.toNat s.grid
        fmtbits := formatWord s.config.ecl s.masksel.toNat
        verbits := if 7 ≤ v then versionWord v else 0
        gridstat := { s.gridstat with final := true, sel := false } })) ∧
    (s.gridstat.valid = false ∨ s.gridstat.placed = false ∨ s.gridstat.sel = false ∨
      s.gridstat.final = true → exec .finalize s = .next (failed s 6))

/-- R403: SELECT and then FINALIZE on a placed grid that is not final leave a symbol whose penalty stands
in PEN[MASKSEL] and is the least of the eight candidates of the grid before.
An inference the spec marks as its own ([derived] of R403). -/
def Obligations.FinalizedSymbolHasLeastPenalty : Prop :=
  ∀ (s : State) (v n : Nat), v = s.gridstat.gver.toNat → n = 4 * v + 17 →
    s.gridstat.valid = true → s.gridstat.placed = true → s.gridstat.final = false →
    ∃ t, sequence [.select, .finalize] s = .next t ∧ t.status.err = false ∧
      t.gridstat.final = true ∧
      t.pen[t.masksel.toFin] = BitVec.ofNat 32 (penalty qrTables (matrixOf n fun r c =>
        decide ((t.grid.read r c).tag = .dark))) ∧
      ∀ k, k < 8 → penalty qrTables (matrixOf n fun r c => decide ((t.grid.read r c).tag = .dark)) ≤
        penalty qrTables (matrixOf n fun r c =>
          decide (((candidate qrTables v s.config.ecl k s.grid).read r c).tag = .dark))

/-! ### ENCODE -/

/-- R452: for every state, ENCODE leaves what its six stages leave when each of them succeeds; it fails
or faults exactly when its first stage, INTERLEAVE, does, and in the same way.
An inference the spec marks as its own ([derived] of R452). -/
def Obligations.EncodeIsItsStages : Prop :=
  ∀ s : State,
    (∀ t, t.status.err = false →
      (exec .encode s = .next t ↔ sequence encodeStages s = .next t)) ∧
    (∀ t, t.status.err = true → (exec .encode s = .next t ↔ exec .interleave s = .next t)) ∧
    ∀ f, exec .encode s = .fault f ↔ exec .interleave s = .fault f

/-- R451: with a legal version, exactly the data capacity in DLEN and the data written, ENCODE succeeds
with what its stages leave in order; GRIDSTAT is then VALID, every stamp, PLACED and FINAL for that
version, CWBUF holds the interleaved codewords, CWLEN their count, every module of the symbol is Light or
Dark, and GPOLY, GLEN and REMBUF are as they were. RANGE, CAPACITY and INVARIANT in that order; a model
fault on an unwritten data byte.
That no check after the first three can fail is an inference the spec marks as its own ([derived] of
R451). -/
def Obligations.EncodeResult : Prop :=
  ∀ (s : State) (v cap : Nat), v = s.config.version.toNat → cap = dataCapacity qrTables v s.config.ecl →
    (∀ data : List Byte, 1 ≤ v → v ≤ 40 → s.dlen.toNat = cap → data.length = s.dlen.toNat →
      Holds s .dbuf 0 data →
      ∃ t, exec .encode s = .next t ∧ sequence encodeStages s = .next t ∧ t.engine = .idle ∧
        t.status = { done := true, err := false, errcode := 0, overrun := s.status.overrun } ∧
        t.gridstat = encodedStat s.config.version ∧ t.cwlen.toNat = rawCodewords v ∧
        WrittenAt s t.mem 0x02000 (interleaved qrTables v s.config.ecl data) ∧ t.glen = s.glen ∧
        ∀ r c, r < 4 * v + 17 → c < 4 * v + 17 →
          (t.grid.read r c).tag = .light ∨ (t.grid.read r c).tag = .dark) ∧
    (v < 1 ∨ 40 < v → exec .encode s = .next (failed s 1)) ∧
    (1 ≤ v → v ≤ 40 → cap < s.dlen.toNat → exec .encode s = .next (failed s 2)) ∧
    (1 ≤ v → v ≤ 40 → s.dlen.toNat < cap → exec .encode s = .next (failed s 4)) ∧
    (1 ≤ v → v ≤ 40 → s.dlen.toNat = cap →
      (∃ j, j < s.dlen.toNat ∧ s.readByte .dbuf j = none) →
      exec .encode s = .fault .unwrittenBufferByte)

/-! ### Invariants -/

/-- Both invariants hold right after reset. -/
def Obligations.InvariantsHoldAtReset : Prop :=
  State.reset.BlockInv ∧ State.reset.StageInv

/-- Every step from a state that meets BlockInv keeps it. -/
def Obligations.EveryStepKeepsBlockInv : Prop :=
  ∀ s t : State, s.BlockInv → step s = .next t → t.BlockInv

/-- Every step from a state that meets both invariants keeps StageInv. -/
def Obligations.EveryStepKeepsStageInv : Prop :=
  ∀ s t : State, s.BlockInv → s.StageInv → step s = .next t → t.StageInv
end

