-- ==== Sys2Proof/Laws/Store.lean ====
section
/-! SUPPORT. Laws of sparse storage: read after write, and every operation keeps the canonical form. -/

namespace Sys2Proof.Machine

variable {α : Type}

/-! ### Keyed lists -/

@[simp] theorem Store.find_nil (k : Nat) : Store.find ([] : List (Nat × α)) k = none := rfl

theorem Store.find_insert_self (l : List (Nat × α)) (k : Nat) (v : α) :
    Store.find (Store.insert l k v) k = some v := by
  induction l with
  | nil => simp [Store.insert, Store.find]
  | cons e l ih =>
    obtain ⟨j, a⟩ := e
    simp only [Store.insert]
    split
    · simp [Store.find]
    · split
      · simp [Store.find]
      · next h1 h2 => simp [Store.find, h1, h2, ih]

theorem Store.find_insert_ne (l : List (Nat × α)) {k k' : Nat} (v : α) (h : k' ≠ k) :
    Store.find (Store.insert l k v) k' = Store.find l k' := by
  induction l with
  | nil => simp [Store.insert, Store.find, h]
  | cons e l ih =>
    obtain ⟨j, a⟩ := e
    simp only [Store.insert]
    split
    · next h1 => subst h1; simp [Store.find, h]
    · split
      · next h1 h2 =>
        by_cases hk : k' < k
        · have : k' < j := by omega
          have : k' ≠ j := by omega
          simp [Store.find, *]
        · simp [Store.find, h, hk]
      · simp [Store.find, ih]

/-- Read after write on a keyed list. -/
theorem Store.find_insert (l : List (Nat × α)) (k k' : Nat) (v : α) :
    Store.find (Store.insert l k v) k' = if k' = k then some v else Store.find l k' := by
  split
  · next h => rw [h, Store.find_insert_self]
  · next h => exact Store.find_insert_ne l v h

theorem Store.rising_cons {j : Nat} {a : α} {l : List (Nat × α)} :
    Store.rising ((j, a) :: l) = true ↔
      (∀ e ∈ l, j < e.1) ∧ Store.rising l = true := by
  induction l generalizing j a with
  | nil => simp [Store.rising]
  | cons e l ih =>
    obtain ⟨k, b⟩ := e
    simp only [Store.rising, Bool.and_eq_true, decide_eq_true_eq, List.mem_cons, forall_eq_or_imp]
    constructor
    · rintro ⟨hjk, hr⟩
      refine ⟨⟨hjk, fun e he => ?_⟩, hr⟩
      have := (ih.mp hr).1 e he
      omega
    · rintro ⟨⟨hjk, -⟩, hr⟩
      exact ⟨hjk, hr⟩

theorem Store.mem_insert {l : List (Nat × α)} {k : Nat} {v : α} {e : Nat × α}
    (h : e ∈ Store.insert l k v) : e = (k, v) ∨ e ∈ l := by
  induction l with
  | nil => simpa [Store.insert] using h
  | cons x l ih =>
    obtain ⟨j, a⟩ := x
    simp only [Store.insert] at h
    split at h
    · rcases List.mem_cons.mp h with h | h <;> simp [h]
    · split at h
      · rcases List.mem_cons.mp h with h | h <;> simp [h]
      · rcases List.mem_cons.mp h with h | h
        · simp [h]
        · rcases ih h with h | h <;> simp [h]

theorem Store.mem_erase {l : List (Nat × α)} {k : Nat} {e : Nat × α}
    (h : e ∈ Store.erase l k) : e ∈ l := by
  induction l with
  | nil => simp [Store.erase] at h
  | cons x l ih =>
    obtain ⟨j, a⟩ := x
    simp only [Store.erase] at h
    split at h
    · simp [h]
    · split at h
      · exact h
      · rcases List.mem_cons.mp h with h | h
        · simp [h]
        · simp [ih h]

theorem Store.rising_insert {l : List (Nat × α)} (k : Nat) (v : α) (h : Store.rising l = true) :
    Store.rising (Store.insert l k v) = true := by
  induction l with
  | nil => rfl
  | cons e l ih =>
    obtain ⟨j, a⟩ := e
    have hc := Store.rising_cons.mp h
    simp only [Store.insert]
    split
    · next hk => subst hk; exact Store.rising_cons.mpr hc
    · split
      · next hne hlt =>
        refine Store.rising_cons.mpr ⟨fun e he => ?_, h⟩
        rcases List.mem_cons.mp he with he | he
        · subst he; exact hlt
        · have := hc.1 e he; omega
      · next hne hnl =>
        refine Store.rising_cons.mpr ⟨fun e he => ?_, ih hc.2⟩
        rcases Store.mem_insert he with he | he
        · subst he; simp only; omega
        · exact hc.1 e he

theorem Store.rising_erase {l : List (Nat × α)} (k : Nat) (h : Store.rising l = true) :
    Store.rising (Store.erase l k) = true := by
  induction l with
  | nil => rfl
  | cons e l ih =>
    obtain ⟨j, a⟩ := e
    have hc := Store.rising_cons.mp h
    simp only [Store.erase]
    split
    · exact hc.2
    · split
      · exact h
      · exact Store.rising_cons.mpr ⟨fun e he => hc.1 e (Store.mem_erase he), ih hc.2⟩

theorem Store.find_eq_none_of_lt {l : List (Nat × α)} {k : Nat} (h : ∀ e ∈ l, k < e.1) :
    Store.find l k = none := by
  cases l with
  | nil => rfl
  | cons e l =>
    obtain ⟨j, a⟩ := e
    have hj : k < j := h (j, a) (by simp)
    have : k ≠ j := by omega
    simp [Store.find, this, hj]

/-- Read after erase on a canonical keyed list. -/
theorem Store.find_erase {l : List (Nat × α)} (k k' : Nat) (h : Store.rising l = true) :
    Store.find (Store.erase l k) k' = if k' = k then none else Store.find l k' := by
  induction l with
  | nil => simp [Store.erase]
  | cons e l ih =>
    obtain ⟨j, a⟩ := e
    have hc := Store.rising_cons.mp h
    simp only [Store.erase]
    split
    · next hk =>
      subst hk
      split
      · next hk' => subst hk'; exact Store.find_eq_none_of_lt hc.1
      · next hk' =>
        by_cases hlt : k' < k
        · rw [Store.find_eq_none_of_lt fun e he => by have := hc.1 e he; omega]
          simp [Store.find, hk', hlt]
        · simp [Store.find, hk', hlt]
    · split
      · next hne hlt =>
        split
        · next hk' => subst hk'; simp [Store.find, hne, hlt]
        · rfl
      · next hne hnl =>
        have ih' := ih hc.2
        simp only [Store.find]
        split
        · next hk' =>
          subst hk'
          have : k' ≠ k := fun h => hne h.symm
          simp [this]
        · split
          · simp
          · exact ih'

theorem Store.find_some_mem {l : List (Nat × α)} {k : Nat} {v : α} (h : Store.find l k = some v) :
    (k, v) ∈ l := by
  induction l with
  | nil => simp at h
  | cons e l ih =>
    obtain ⟨j, a⟩ := e
    simp only [Store.find] at h
    split at h
    · next hk => subst hk; simp_all
    · split at h
      · simp at h
      · simp [ih h]

/-- What a canonical keyed list shows under a key is what it lists there. -/
theorem Store.mem_find {l : List (Nat × α)} {k : Nat} {v : α} (hr : Store.rising l = true)
    (h : (k, v) ∈ l) : Store.find l k = some v := by
  induction l with
  | nil => simp at h
  | cons e l ih =>
    obtain ⟨j, a⟩ := e
    have hc := Store.rising_cons.mp hr
    rcases List.mem_cons.mp h with h | h
    · simp only [Prod.mk.injEq] at h
      simp [Store.find, h.1, h.2]
    · have hj : j < k := hc.1 _ h
      have h1 : k ≠ j := by omega
      have h2 : ¬ k < j := by omega
      simp [Store.find, h1, h2, ih hc.2 h]

/-! ### Buffer memory -/

@[simp] theorem Memory.read_nil (a : Nat) : Memory.read [] a = none := rfl

/-- Read after write of one byte (R68). -/
theorem Memory.read_write (m : Memory) (a a' : Nat) (b : Byte) :
    (m.write a b).read a' = if a' = a then some b else m.read a' :=
  Store.find_insert m a a' b

/-- A write keeps memory canonical. -/
theorem Memory.wf_write {m : Memory} (a : Nat) (b : Byte) (h : m.wf = true) :
    (m.write a b).wf = true := Store.rising_insert a b h

/-! ### The grid -/

@[simp] theorem Grid.read_nil (r c : Nat) : Grid.read [] r c = GridCell.blank := rfl

theorem GridRow.read_write_of_ne_blank (row : GridRow) (c c' : Nat) {m : GridCell}
    (h : m ≠ GridCell.blank) :
    (row.write c m).read c' = if c' = c then m else row.read c' := by
  simp only [GridRow.write, if_neg h, GridRow.read, Store.find_insert]
  split <;> rfl

theorem GridRow.write_ne_nil (row : GridRow) (c : Nat) {m : GridCell}
    (h : m ≠ GridCell.blank) : row.write c m ≠ [] := by
  intro hn
  have := Store.find_insert_self row c m
  simp only [GridRow.write, if_neg h] at hn
  rw [hn] at this
  simp at this

/-- Read after write of a module that is not blank: the only kind of write the commands make. -/
theorem Grid.read_write_of_ne_blank (g : Grid) (r c r' c' : Nat) {m : GridCell}
    (h : m ≠ GridCell.blank) :
    (g.write r c m).read r' c' = if r' = r ∧ c' = c then m else g.read r' c' := by
  simp only [Grid.write, Grid.setRow, if_neg (GridRow.write_ne_nil _ c h)]
  simp only [Grid.read, Grid.row, Store.find_insert]
  by_cases hr : r' = r
  · subst hr
    simp only [if_true, Option.getD_some, true_and]
    exact GridRow.read_write_of_ne_blank _ c c' h
  · simp [hr]

/-- `cell(r, c) <- t` for a tag other than Unset, modulewise (R10). -/
theorem Grid.read_setTag (g : Grid) (r c r' c' : Nat) {t : Tag} (h : t ≠ .unset) :
    (g.setTag r c t).read r' c' =
      if r' = r ∧ c' = c then { g.read r c with tag := t } else g.read r' c' :=
  Grid.read_write_of_ne_blank g r c r' c' (by simp [GridCell.blank, h])

theorem GridRow.wf_write {row : GridRow} (c : Nat) (m : GridCell) (h : row.wf = true) :
    (row.write c m).wf = true := by
  simp only [GridRow.wf, Bool.and_eq_true, List.all_eq_true, Bool.not_eq_true',
    decide_eq_false_iff_not] at h ⊢
  unfold GridRow.write
  split
  · exact ⟨Store.rising_erase c h.1, fun e he => h.2 e (Store.mem_erase he)⟩
  · next hm =>
    refine ⟨Store.rising_insert c m h.1, fun e he => ?_⟩
    rcases Store.mem_insert he with he | he
    · subst he; exact hm
    · exact h.2 e he

theorem Grid.wf_row {g : Grid} (r : Nat) (h : g.wf = true) : (g.row r).wf = true := by
  simp only [Grid.wf, Bool.and_eq_true, List.all_eq_true] at h
  unfold Grid.row
  cases hf : Store.find g r with
  | none => rfl
  | some row => exact (h.2 _ (Store.find_some_mem hf)).1

/-- A write keeps the grid canonical. -/
theorem Grid.wf_write {g : Grid} (r c : Nat) (m : GridCell) (h : g.wf = true) :
    (g.write r c m).wf = true := by
  have hrow := GridRow.wf_write c m (Grid.wf_row r h)
  simp only [Grid.wf, Bool.and_eq_true, List.all_eq_true] at h ⊢
  unfold Grid.write Grid.setRow
  split
  · exact ⟨Store.rising_erase r h.1, fun e he => h.2 e (Store.mem_erase he)⟩
  · next hne =>
    refine ⟨Store.rising_insert r _ h.1, fun e he => ?_⟩
    rcases Store.mem_insert he with he | he
    · subst he
      exact ⟨hrow, by simpa using hne⟩
    · exact h.2 e he

theorem Grid.wf_setTag {g : Grid} (r c : Nat) (t : Tag) (h : g.wf = true) :
    (g.setTag r c t).wf = true := Grid.wf_write r c _ h

end Sys2Proof.Machine
end

