-- ==== Sys2Proof/Laws/Ops.lean ====
section
/-! SUPPORT. One lemma per shared operation that says everything it can do: runs of buffer bytes,
finishing a command, stages. -/

namespace Sys2Proof.Machine

/-- A run of bytes that could be read: its length and its bytes (R68). -/
theorem State.readBytes_eq_some {s : State} {b : Buf} {off len : Nat} {xs : List Byte} :
    s.readBytes b off len = some xs ↔
      xs.length = len ∧ ∀ j, (h : j < xs.length) → s.readByte b (off + j) = some xs[j] := by
  induction len generalizing off xs with
  | zero =>
    simp only [State.readBytes, Option.some.injEq]
    constructor
    · rintro rfl; simp
    · rintro ⟨h, -⟩; exact (List.length_eq_zero_iff.mp h).symm
  | succ len ih =>
    simp only [State.readBytes]
    constructor
    · intro h
      split at h
      · next x ys hx hys =>
        simp only [Option.some.injEq] at h
        subst h
        obtain ⟨hl, hb⟩ := ih.mp hys
        refine ⟨by simp [hl], fun j hj => ?_⟩
        cases j with
        | zero => simpa using hx
        | succ j =>
          have := hb j (by simpa using hj)
          rw [show off + (j + 1) = off + 1 + j by omega]
          simpa using this
      · simp at h
    · rintro ⟨hl, hb⟩
      cases xs with
      | nil => simp at hl
      | cons x ys =>
        have hx : s.readByte b off = some x := hb 0 (Nat.succ_pos _)
        have hys : s.readBytes b (off + 1) len = some ys := by
          refine ih.mpr ⟨by simpa using hl, fun j hj => ?_⟩
          have := hb (j + 1) (by simpa using hj)
          rw [show off + 1 + j = off + (j + 1) by omega]
          simpa using this
        simp [hx, hys]

/-- A run of bytes that could not be read: one of them is unwritten (R68). -/
theorem State.readBytes_eq_none {s : State} {b : Buf} {off len : Nat} :
    s.readBytes b off len = none ↔ ∃ j < len, s.readByte b (off + j) = none := by
  induction len generalizing off with
  | zero => simp [State.readBytes]
  | succ len ih =>
    simp only [State.readBytes]
    constructor
    · intro h
      cases hx : s.readByte b off with
      | none => exact ⟨0, by omega, hx⟩
      | some x =>
        cases hys : s.readBytes b (off + 1) len with
        | none =>
          obtain ⟨j, hj, hn⟩ := ih.mp hys
          exact ⟨j + 1, by omega, by rw [show off + (j + 1) = off + 1 + j by omega]; exact hn⟩
        | some ys => simp [hx, hys] at h
    · rintro ⟨j, hj, hn⟩
      cases j with
      | zero => simp [show s.readByte b off = none by simpa using hn]
      | succ j =>
        have : s.readBytes b (off + 1) len = none :=
          ih.mpr ⟨j, by omega, by rw [show off + 1 + j = off + (j + 1) by omega]; exact hn⟩
        cases s.readByte b off <;> simp [this]

/-- Read after a run of writes. -/
theorem Memory.read_writeRun (m : Memory) (a a' : Nat) (xs : List Byte) :
    (m.writeRun a xs).read a' =
      if h : a ≤ a' ∧ a' < a + xs.length then some (xs[a' - a]'(by omega)) else m.read a' := by
  induction xs generalizing m a with
  | nil =>
    simp [Memory.writeRun]
  | cons x xs ih =>
    simp only [Memory.writeRun, ih, Memory.read_write]
    by_cases h1 : a + 1 ≤ a' ∧ a' < a + 1 + xs.length
    · have h2 : a ≤ a' ∧ a' < a + (x :: xs).length := by simp only [List.length_cons]; omega
      rw [dif_pos h1, dif_pos h2]
      have : a' - a = (a' - (a + 1)) + 1 := by omega
      simp [this]
    · rw [dif_neg h1]
      by_cases h3 : a' = a
      · subst h3
        have h2 : a' ≤ a' ∧ a' < a' + (x :: xs).length := by simp only [List.length_cons]; omega
        rw [dif_pos h2]
        simp
      · have h2 : ¬ (a ≤ a' ∧ a' < a + (x :: xs).length) := by simp only [List.length_cons]; omega
        rw [dif_neg h2, if_neg h3]

/-- A run of writes keeps memory canonical. -/
theorem Memory.wf_writeRun {m : Memory} (a : Nat) (xs : List Byte) (h : m.wf = true) :
    (m.writeRun a xs).wf = true := by
  induction xs generalizing m a with
  | nil => exact h
  | cons x xs ih => exact ih (a + 1) (Memory.wf_write a x h)

/-- A command that answers a next state either completed with all its writes or recorded one error and
changed nothing else (R61). -/
theorem finish_eq_next {s t : State} {b : Body} (h : finish s b = .next t) :
    (∃ u, b = .ok u ∧ t = u.complete) ∨ ∃ c, b = .error (.error c) ∧ t = s.raise c := by
  unfold finish at h
  split at h
  · next u => exact .inl ⟨u, rfl, by injection h with h; exact h.symm⟩
  · next c => exact .inr ⟨c, rfl, by injection h with h; exact h.symm⟩
  · simp at h

/-- A command that faults would have read an unwritten byte or nothing else is known of it. -/
theorem finish_eq_fault {s : State} {b : Body} {f : Fault} (h : finish s b = .fault f) :
    b = .error (.fault f) := by
  unfold finish at h
  split at h
  · simp at h
  · simp at h
  · next f' => injection h with h; rw [h]

/-- No command is refused. -/
theorem finish_ne_refused (s : State) (b : Body) (r : Refusal) : finish s b ≠ .refused r := by
  unfold finish
  split <;> simp

@[simp] theorem finish_ok (s t : State) : finish s (.ok t) = .next t.complete := rfl

@[simp] theorem finish_raiseError (s : State) (c : ErrorCode) :
    finish s (raiseError c) = .next (s.raise c) := rfl

@[simp] theorem withBytes_some (xs : List Byte) (k : List Byte → Body) :
    withBytes (some xs) k = k xs := rfl

@[simp] theorem withBytes_none (k : List Byte → Body) :
    withBytes none k = .error (.fault .unwrittenBufferByte) := rfl

end Sys2Proof.Machine
end

