-- ==== Sys2Proof/Laws/Grid.lean ====
section
/-! SUPPORT. What the shared grid operations do, module by module: stamping, masking, visiting the
square; and that each keeps the canonical form. -/

namespace Sys2Proof.Machine

theorem mem_squareModules {n : Nat} {p : Nat × Nat} :
    p ∈ squareModules n ↔ p.1 < n ∧ p.2 < n := by
  obtain ⟨r, c⟩ := p
  simp [squareModules]

theorem nodup_squareModules (n : Nat) : (squareModules n).Nodup := by
  refine List.nodup_flatMap.mpr ⟨fun r _ => ?_, ?_⟩
  · refine List.Nodup.map (fun a b h => ?_) List.nodup_range
    simpa using h
  · refine List.Pairwise.imp ?_ List.nodup_range
    intro a b hab p hp hq
    simp only [List.mem_map] at hp hq
    obtain ⟨_, _, rfl⟩ := hp
    obtain ⟨_, _, hq⟩ := hq
    exact hab (by simpa using (congrArg Prod.fst hq).symm)

/-! ### Stages -/

/-- A command that needs earlier stages completes with its effect, or raises SEQUENCE (R303). -/
theorem finish_staged (s t : State) (ready : Bool) :
    finish s (staged ready t) =
      if ready = true then .next t.complete else .next (s.raise .sequence) := by
  cases ready <;> rfl

@[simp] theorem staged_true (t : State) : staged true t = .ok t := rfl

@[simp] theorem staged_false (t : State) : staged false t = raiseError .sequence := rfl

/-! ### Stamps (R302) -/

/-- One stamp, module by module. -/
theorem stamp_read (n : Nat) (g : Grid) (x : Stamp) (r c : Nat) :
    (stamp n g x).read r c =
      if r = x.r ∧ c = x.c ∧ x.r < n ∧ x.c < n ∧ (g.read r c).fn = false then
        { tag := x.t, fn := true }
      else g.read r c := by
  unfold stamp
  by_cases hx : x.r < n ∧ x.c < n ∧ (g.read x.r x.c).fn = false
  · rw [if_pos hx, Grid.read_write_of_ne_blank _ _ _ _ _ (by simp [GridCell.blank])]
    by_cases hrc : r = x.r ∧ c = x.c
    · obtain ⟨rfl, rfl⟩ := hrc
      simp [hx]
    · rw [if_neg hrc, if_neg fun h => hrc ⟨h.1, h.2.1⟩]
  · rw [if_neg hx, if_neg]
    rintro ⟨rfl, rfl, h⟩
    exact hx h

/-- A list of stamps, module by module: a function module stays; any other takes the first request made
for it inside the symbol (R302). -/
theorem stampMany_read (n : Nat) (g : Grid) (xs : List Stamp) (r c : Nat) :
    (stampMany n g xs).read r c =
      if (g.read r c).fn = true then g.read r c
      else match xs.find? (fun x => decide (x.r = r ∧ x.c = c ∧ r < n ∧ c < n)) with
        | none => g.read r c
        | some x => { tag := x.t, fn := true } := by
  induction xs generalizing g with
  | nil => simp [stampMany]
  | cons x xs ih =>
    have hstep : stampMany n g (x :: xs) = stampMany n (stamp n g x) xs := rfl
    rw [hstep, ih, stamp_read]
    by_cases hfn : (g.read r c).fn = true
    · simp [hfn]
    · have hf : (g.read r c).fn = false := by simpa using hfn
      by_cases hx : x.r = r ∧ x.c = c ∧ r < n ∧ c < n
      · obtain ⟨rfl, rfl, h1, h2⟩ := hx
        simp [hf, h1, h2]
      · have hx' : ¬ (r = x.r ∧ c = x.c ∧ x.r < n ∧ x.c < n ∧ (g.read r c).fn = false) := by
          rintro ⟨rfl, rfl, h1, h2, -⟩
          exact hx ⟨rfl, rfl, h1, h2⟩
        rw [if_neg hx']
        simp [hf, hx]

theorem stamp_wf {g : Grid} (n : Nat) (x : Stamp) (h : g.wf = true) : (stamp n g x).wf = true := by
  unfold stamp
  split
  · exact Grid.wf_write _ _ _ h
  · exact h

/-- Stamping keeps the grid canonical. -/
theorem stampMany_wf {g : Grid} (n : Nat) (xs : List Stamp) (h : g.wf = true) :
    (stampMany n g xs).wf = true := by
  induction xs generalizing g with
  | nil => exact h
  | cons x xs ih => exact ih (stamp_wf n x h)

/-! ### Masks (R381) -/

/-- The tag a flip gives (R381). -/
theorem flip_ne_unset (t : Tag) : (if t = .dark then Tag.light else Tag.dark) ≠ .unset := by
  cases t <;> simp

/-- One module under the mask. -/
theorem maskModule_read (T : QrTables) (k : Nat) (g : Grid) (p : Nat × Nat) (r c : Nat) :
    (maskModule T k g p).read r c =
      if r = p.1 ∧ c = p.2 ∧ (g.read r c).fn = false ∧ T.mask k r c = true then
        { g.read r c with tag := if (g.read r c).tag = .dark then .light else .dark }
      else g.read r c := by
  simp only [maskModule, Bool.and_eq_true, Bool.not_eq_true']
  by_cases hp : (g.read p.1 p.2).fn = false ∧ T.mask k p.1 p.2 = true
  · rw [if_pos hp, Grid.read_setTag _ _ _ _ _ (flip_ne_unset _)]
    by_cases hrc : r = p.1 ∧ c = p.2
    · obtain ⟨rfl, rfl⟩ := hrc
      simp [hp]
    · rw [if_neg hrc, if_neg fun h => hrc ⟨h.1, h.2.1⟩]
  · rw [if_neg hp, if_neg]
    rintro ⟨rfl, rfl, h⟩
    exact hp h

theorem foldl_maskModule_read (T : QrTables) (k : Nat) (ps : List (Nat × Nat)) (hn : ps.Nodup) (g : Grid)
    (r c : Nat) :
    (ps.foldl (maskModule T k) g).read r c =
      if (r, c) ∈ ps ∧ (g.read r c).fn = false ∧ T.mask k r c = true then
        { g.read r c with tag := if (g.read r c).tag = .dark then .light else .dark }
      else g.read r c := by
  induction ps generalizing g with
  | nil => simp
  | cons p ps ih =>
    obtain ⟨hp, hps⟩ := List.nodup_cons.mp hn
    rw [List.foldl_cons, ih hps, maskModule_read]
    by_cases hrc : (r, c) = p
    · subst hrc
      simp [hp]
    · have h1 : ¬ (r = p.1 ∧ c = p.2 ∧ (g.read r c).fn = false ∧ T.mask k r c = true) := by
        rintro ⟨rfl, rfl, -⟩
        exact hrc rfl
      rw [if_neg h1]
      simp [hrc]

/-- Masking the square, module by module (R381). -/
theorem maskGrid_read (T : QrTables) (k n : Nat) (g : Grid) (r c : Nat) :
    (maskGrid T k n g).read r c =
      if (r < n ∧ c < n) ∧ (g.read r c).fn = false ∧ T.mask k r c = true then
        { g.read r c with tag := if (g.read r c).tag = .dark then .light else .dark }
      else g.read r c := by
  rw [maskGrid, foldl_maskModule_read T k _ (nodup_squareModules n)]
  simp only [mem_squareModules]

theorem foldl_maskModule_wf {g : Grid} (T : QrTables) (k : Nat) (ps : List (Nat × Nat)) (h : g.wf = true) :
    (ps.foldl (maskModule T k) g).wf = true := by
  induction ps generalizing g with
  | nil => exact h
  | cons p ps ih =>
    refine ih ?_
    simp only [maskModule]
    split
    · exact Grid.wf_setTag _ _ _ h
    · exact h

/-- Masking keeps the grid canonical. -/
theorem maskGrid_wf {g : Grid} (T : QrTables) (k n : Nat) (h : g.wf = true) : (maskGrid T k n g).wf = true :=
  foldl_maskModule_wf T k _ h

/-! ### Placing, format and version writes keep the canonical form -/

theorem placeBits_wf {g : Grid} (ps : List (Nat × Nat)) (bits : List Bool) (h : g.wf = true) :
    (placeBits ps bits g).wf = true := by
  induction ps generalizing g bits with
  | nil => exact h
  | cons p ps ih =>
    simp only [placeBits]
    split
    · split
      · exact ih _ (Grid.wf_setTag _ _ _ h)
      · exact ih _ (Grid.wf_setTag _ _ _ h)
    · exact ih _ h

theorem writeFormat_wf {g : Grid} (n : Nat) (w : BitVec 15) (h : g.wf = true) :
    (writeFormat n w g).wf = true := by
  unfold writeFormat
  generalize List.range 15 = l
  induction l generalizing g with
  | nil => exact h
  | cons i l ih => exact ih (Grid.wf_setTag _ _ _ (Grid.wf_setTag _ _ _ h))

theorem writeVersion_wf {g : Grid} (v n : Nat) (h : g.wf = true) :
    (writeVersion v n g).wf = true := by
  unfold writeVersion
  split
  · generalize List.range 18 = l
    induction l generalizing g with
    | nil => exact h
    | cons i l ih => exact ih (Grid.wf_setTag _ _ _ (Grid.wf_setTag _ _ _ h))
  · exact h

end Sys2Proof.Machine
end

