-- ==== Sys2Proof/Laws/Parameter.lean ====
section
/-! SUPPORT. `exec` and `step` are the block under the default tables, and what a step does by the move
that comes next. -/

namespace Sys2Proof.Machine

/-- `exec` is the commands under the spec's tables (R7, D34). -/
theorem execUnder_default (i : Instr) (s : State) : execUnder i s = exec i s := by
  cases i <;> rfl

/-- `step` is the step under the spec's tables (R7, D34). -/
theorem stepUnder_default (s : State) : stepUnder s = step s := by
  have h : (fun i t => execUnder i t) = exec := funext fun i => funext fun t => execUnder_default i t
  rw [stepUnder, step, h]

/-- Whether a command reads `QrTables` (R252, R314, R380, R383 to R386). -/
def readsTables : Instr → Bool
  | .capq | .interleave | .stampAlign | .stampAll | .maskapply _ | .score _ | .select | .finalize
  | .encode => true
  | .nop | .gfmul | .polyeval | .rsgen | .rsrem | .syndrome | .gridinit | .stampFinder | .stampSep
  | .stampTiming | .reserveFmt | .reserveVer | .place | .fmtenc _ | .fmtwrite _ | .verenc
  | .verwrite => false

/-- A command that reads no table does the same under every `T`. -/
theorem execUnder_of_not_readsTables {i : Instr} (h : readsTables i = false) (s : State)
    (T : QrTables) : execUnder i s T = exec i s := by
  cases i <;> first | exact absurd h Bool.noConfusion | rfl

/-- With no move left, the step is the engine's turn. -/
theorem step_of_noMove {s : State} (h : s.inputs = []) : step s = engineTurn exec s := by
  simp only [step, stepBy, h]

/-- With a move left, the step is that move. -/
theorem step_of_move {s : State} {m : Move} {rest : List Move} (h : s.inputs = m :: rest) :
    step s = moveTurn exec m rest s := by
  simp only [step, stepBy, h]

/-- The engine performs a word that decodes by its command. -/
theorem engineTurn_of_decode {run : Meaning} {s : State} {w : Word} {i : Instr}
    (h : s.engine = .busy w) (hd : decode w = .ok i) : engineTurn run s = run i s := by
  simp only [engineTurn, h, perform, hd]

/-- The engine raises ILLEGAL on a word that does not decode (R162). -/
theorem engineTurn_of_illegal {run : Meaning} {s : State} {w : Word} {e : DecodeError}
    (h : s.engine = .busy w) (hd : decode w = .error e) :
    engineTurn run s = .next (s.raise .illegal) := by
  simp only [engineTurn, h, perform, hd]

end Sys2Proof.Machine
end

