-- ==== Sys2Proof/Laws/PerInstr.lean ====
section
/-! SUPPORT. Per-instruction family EncodeWf: the word of every command has well-formed fields (R160,
R162). -/

namespace Sys2Proof.Laws.EncodeWf

/-- The fields of the word of `i` meet the three conditions of R162. -/
def Statement (i : Instr) : Prop := (splitWord (encode i)).wf = true

theorem nop : Statement .nop := by unfold Statement; decide

theorem gfmul : Statement .gfmul := by unfold Statement; decide

theorem polyeval : Statement .polyeval := by unfold Statement; decide

theorem rsgen : Statement .rsgen := by unfold Statement; decide

theorem rsrem : Statement .rsrem := by unfold Statement; decide

theorem syndrome : Statement .syndrome := by unfold Statement; decide

theorem capq : Statement .capq := by unfold Statement; decide

theorem interleave : Statement .interleave := by unfold Statement; decide

theorem gridinit : Statement .gridinit := by unfold Statement; decide

theorem stampFinder : Statement .stampFinder := by unfold Statement; decide

theorem stampSep : Statement .stampSep := by unfold Statement; decide

theorem stampTiming : Statement .stampTiming := by unfold Statement; decide

theorem stampAlign : Statement .stampAlign := by unfold Statement; decide

theorem reserveFmt : Statement .reserveFmt := by unfold Statement; decide

theorem reserveVer : Statement .reserveVer := by unfold Statement; decide

theorem stampAll : Statement .stampAll := by unfold Statement; decide

theorem place : Statement .place := by unfold Statement; decide

theorem maskapply (k : BitVec 3) : Statement (.maskapply k) := by revert k; unfold Statement; decide

theorem score (k : BitVec 3) : Statement (.score k) := by revert k; unfold Statement; decide

theorem select : Statement .select := by unfold Statement; decide

theorem fmtenc (k : BitVec 3) : Statement (.fmtenc k) := by revert k; unfold Statement; decide

theorem fmtwrite (k : BitVec 3) : Statement (.fmtwrite k) := by revert k; unfold Statement; decide

theorem verenc : Statement .verenc := by unfold Statement; decide

theorem verwrite : Statement .verwrite := by unfold Statement; decide

theorem finalize : Statement .finalize := by unfold Statement; decide

theorem encode : Statement .encode := by unfold Statement; decide

end Sys2Proof.Laws.EncodeWf
end

