-- ==== Sys2Proof/Laws/State.lean ====
section
/-! SUPPORT. For each named state update, what it leaves in each field: one lemma per field, true by
unfolding, so that no later proof unfolds a record update. -/

namespace Sys2Proof.Machine

/-! ### complete -/

@[simp] theorem State.complete_engine (s : State) :
    (s.complete).engine = .idle := rfl
@[simp] theorem State.complete_cmd (s : State) : (s.complete).cmd = s.cmd := rfl
@[simp] theorem State.complete_status (s : State) :
    (s.complete).status = { s.status with done := true, err := false, errcode := 0 } := rfl
@[simp] theorem State.complete_config (s : State) : (s.complete).config = s.config := rfl
@[simp] theorem State.complete_opa (s : State) : (s.complete).opa = s.opa := rfl
@[simp] theorem State.complete_opb (s : State) : (s.complete).opb = s.opb := rfl
@[simp] theorem State.complete_opc (s : State) : (s.complete).opc = s.opc := rfl
@[simp] theorem State.complete_result (s : State) : (s.complete).result = s.result := rfl
@[simp] theorem State.complete_dlen (s : State) : (s.complete).dlen = s.dlen := rfl
@[simp] theorem State.complete_cwlen (s : State) : (s.complete).cwlen = s.cwlen := rfl
@[simp] theorem State.complete_glen (s : State) : (s.complete).glen = s.glen := rfl
@[simp] theorem State.complete_gridstat (s : State) : (s.complete).gridstat = s.gridstat := rfl
@[simp] theorem State.complete_capblk (s : State) : (s.complete).capblk = s.capblk := rfl
@[simp] theorem State.complete_capecc (s : State) : (s.complete).capecc = s.capecc := rfl
@[simp] theorem State.complete_capraw (s : State) : (s.complete).capraw = s.capraw := rfl
@[simp] theorem State.complete_capdata (s : State) : (s.complete).capdata = s.capdata := rfl
@[simp] theorem State.complete_capshort (s : State) : (s.complete).capshort = s.capshort := rfl
@[simp] theorem State.complete_masksel (s : State) : (s.complete).masksel = s.masksel := rfl
@[simp] theorem State.complete_fmtbits (s : State) : (s.complete).fmtbits = s.fmtbits := rfl
@[simp] theorem State.complete_verbits (s : State) : (s.complete).verbits = s.verbits := rfl
@[simp] theorem State.complete_pen (s : State) : (s.complete).pen = s.pen := rfl
@[simp] theorem State.complete_mem (s : State) : (s.complete).mem = s.mem := rfl
@[simp] theorem State.complete_grid (s : State) : (s.complete).grid = s.grid := rfl
@[simp] theorem State.complete_inputs (s : State) : (s.complete).inputs = s.inputs := rfl
@[simp] theorem State.complete_rdata (s : State) : (s.complete).rdata = s.rdata := rfl
@[simp] theorem State.complete_draws (s : State) : (s.complete).draws = s.draws := rfl

/-! ### raise -/

@[simp] theorem State.raise_engine (s : State) (c : ErrorCode) :
    (s.raise c).engine = .idle := rfl
@[simp] theorem State.raise_cmd (s : State) (c : ErrorCode) : (s.raise c).cmd = s.cmd := rfl
@[simp] theorem State.raise_status (s : State) (c : ErrorCode) :
    (s.raise c).status = { s.status with done := true, err := true, errcode := c.code } := rfl
@[simp] theorem State.raise_config (s : State) (c : ErrorCode) : (s.raise c).config = s.config := rfl
@[simp] theorem State.raise_opa (s : State) (c : ErrorCode) : (s.raise c).opa = s.opa := rfl
@[simp] theorem State.raise_opb (s : State) (c : ErrorCode) : (s.raise c).opb = s.opb := rfl
@[simp] theorem State.raise_opc (s : State) (c : ErrorCode) : (s.raise c).opc = s.opc := rfl
@[simp] theorem State.raise_result (s : State) (c : ErrorCode) : (s.raise c).result = s.result := rfl
@[simp] theorem State.raise_dlen (s : State) (c : ErrorCode) : (s.raise c).dlen = s.dlen := rfl
@[simp] theorem State.raise_cwlen (s : State) (c : ErrorCode) : (s.raise c).cwlen = s.cwlen := rfl
@[simp] theorem State.raise_glen (s : State) (c : ErrorCode) : (s.raise c).glen = s.glen := rfl
@[simp] theorem State.raise_gridstat (s : State) (c : ErrorCode) : (s.raise c).gridstat = s.gridstat := rfl
@[simp] theorem State.raise_capblk (s : State) (c : ErrorCode) : (s.raise c).capblk = s.capblk := rfl
@[simp] theorem State.raise_capecc (s : State) (c : ErrorCode) : (s.raise c).capecc = s.capecc := rfl
@[simp] theorem State.raise_capraw (s : State) (c : ErrorCode) : (s.raise c).capraw = s.capraw := rfl
@[simp] theorem State.raise_capdata (s : State) (c : ErrorCode) : (s.raise c).capdata = s.capdata := rfl
@[simp] theorem State.raise_capshort (s : State) (c : ErrorCode) : (s.raise c).capshort = s.capshort := rfl
@[simp] theorem State.raise_masksel (s : State) (c : ErrorCode) : (s.raise c).masksel = s.masksel := rfl
@[simp] theorem State.raise_fmtbits (s : State) (c : ErrorCode) : (s.raise c).fmtbits = s.fmtbits := rfl
@[simp] theorem State.raise_verbits (s : State) (c : ErrorCode) : (s.raise c).verbits = s.verbits := rfl
@[simp] theorem State.raise_pen (s : State) (c : ErrorCode) : (s.raise c).pen = s.pen := rfl
@[simp] theorem State.raise_mem (s : State) (c : ErrorCode) : (s.raise c).mem = s.mem := rfl
@[simp] theorem State.raise_grid (s : State) (c : ErrorCode) : (s.raise c).grid = s.grid := rfl
@[simp] theorem State.raise_inputs (s : State) (c : ErrorCode) : (s.raise c).inputs = s.inputs := rfl
@[simp] theorem State.raise_rdata (s : State) (c : ErrorCode) : (s.raise c).rdata = s.rdata := rfl
@[simp] theorem State.raise_draws (s : State) (c : ErrorCode) : (s.raise c).draws = s.draws := rfl

/-! ### issue -/

@[simp] theorem State.issue_engine (s : State) (w : Word) :
    (s.issue w).engine = .busy w := rfl
@[simp] theorem State.issue_cmd (s : State) (w : Word) :
    (s.issue w).cmd = w := rfl
@[simp] theorem State.issue_status (s : State) (w : Word) :
    (s.issue w).status = { s.status with done := false, err := false, errcode := 0 } := rfl
@[simp] theorem State.issue_config (s : State) (w : Word) : (s.issue w).config = s.config := rfl
@[simp] theorem State.issue_opa (s : State) (w : Word) : (s.issue w).opa = s.opa := rfl
@[simp] theorem State.issue_opb (s : State) (w : Word) : (s.issue w).opb = s.opb := rfl
@[simp] theorem State.issue_opc (s : State) (w : Word) : (s.issue w).opc = s.opc := rfl
@[simp] theorem State.issue_result (s : State) (w : Word) : (s.issue w).result = s.result := rfl
@[simp] theorem State.issue_dlen (s : State) (w : Word) : (s.issue w).dlen = s.dlen := rfl
@[simp] theorem State.issue_cwlen (s : State) (w : Word) : (s.issue w).cwlen = s.cwlen := rfl
@[simp] theorem State.issue_glen (s : State) (w : Word) : (s.issue w).glen = s.glen := rfl
@[simp] theorem State.issue_gridstat (s : State) (w : Word) : (s.issue w).gridstat = s.gridstat := rfl
@[simp] theorem State.issue_capblk (s : State) (w : Word) : (s.issue w).capblk = s.capblk := rfl
@[simp] theorem State.issue_capecc (s : State) (w : Word) : (s.issue w).capecc = s.capecc := rfl
@[simp] theorem State.issue_capraw (s : State) (w : Word) : (s.issue w).capraw = s.capraw := rfl
@[simp] theorem State.issue_capdata (s : State) (w : Word) : (s.issue w).capdata = s.capdata := rfl
@[simp] theorem State.issue_capshort (s : State) (w : Word) : (s.issue w).capshort = s.capshort := rfl
@[simp] theorem State.issue_masksel (s : State) (w : Word) : (s.issue w).masksel = s.masksel := rfl
@[simp] theorem State.issue_fmtbits (s : State) (w : Word) : (s.issue w).fmtbits = s.fmtbits := rfl
@[simp] theorem State.issue_verbits (s : State) (w : Word) : (s.issue w).verbits = s.verbits := rfl
@[simp] theorem State.issue_pen (s : State) (w : Word) : (s.issue w).pen = s.pen := rfl
@[simp] theorem State.issue_mem (s : State) (w : Word) : (s.issue w).mem = s.mem := rfl
@[simp] theorem State.issue_grid (s : State) (w : Word) : (s.issue w).grid = s.grid := rfl
@[simp] theorem State.issue_inputs (s : State) (w : Word) : (s.issue w).inputs = s.inputs := rfl
@[simp] theorem State.issue_rdata (s : State) (w : Word) : (s.issue w).rdata = s.rdata := rfl
@[simp] theorem State.issue_draws (s : State) (w : Word) : (s.issue w).draws = s.draws := rfl

/-! ### writeBytes -/

@[simp] theorem State.writeBytes_engine (s : State) (b : Buf) (off : Nat) (xs : List Byte) : (s.writeBytes b off xs).engine = s.engine := rfl
@[simp] theorem State.writeBytes_cmd (s : State) (b : Buf) (off : Nat) (xs : List Byte) : (s.writeBytes b off xs).cmd = s.cmd := rfl
@[simp] theorem State.writeBytes_status (s : State) (b : Buf) (off : Nat) (xs : List Byte) : (s.writeBytes b off xs).status = s.status := rfl
@[simp] theorem State.writeBytes_config (s : State) (b : Buf) (off : Nat) (xs : List Byte) : (s.writeBytes b off xs).config = s.config := rfl
@[simp] theorem State.writeBytes_opa (s : State) (b : Buf) (off : Nat) (xs : List Byte) : (s.writeBytes b off xs).opa = s.opa := rfl
@[simp] theorem State.writeBytes_opb (s : State) (b : Buf) (off : Nat) (xs : List Byte) : (s.writeBytes b off xs).opb = s.opb := rfl
@[simp] theorem State.writeBytes_opc (s : State) (b : Buf) (off : Nat) (xs : List Byte) : (s.writeBytes b off xs).opc = s.opc := rfl
@[simp] theorem State.writeBytes_result (s : State) (b : Buf) (off : Nat) (xs : List Byte) : (s.writeBytes b off xs).result = s.result := rfl
@[simp] theorem State.writeBytes_dlen (s : State) (b : Buf) (off : Nat) (xs : List Byte) : (s.writeBytes b off xs).dlen = s.dlen := rfl
@[simp] theorem State.writeBytes_cwlen (s : State) (b : Buf) (off : Nat) (xs : List Byte) : (s.writeBytes b off xs).cwlen = s.cwlen := rfl
@[simp] theorem State.writeBytes_glen (s : State) (b : Buf) (off : Nat) (xs : List Byte) : (s.writeBytes b off xs).glen = s.glen := rfl
@[simp] theorem State.writeBytes_gridstat (s : State) (b : Buf) (off : Nat) (xs : List Byte) : (s.writeBytes b off xs).gridstat = s.gridstat := rfl
@[simp] theorem State.writeBytes_capblk (s : State) (b : Buf) (off : Nat) (xs : List Byte) : (s.writeBytes b off xs).capblk = s.capblk := rfl
@[simp] theorem State.writeBytes_capecc (s : State) (b : Buf) (off : Nat) (xs : List Byte) : (s.writeBytes b off xs).capecc = s.capecc := rfl
@[simp] theorem State.writeBytes_capraw (s : State) (b : Buf) (off : Nat) (xs : List Byte) : (s.writeBytes b off xs).capraw = s.capraw := rfl
@[simp] theorem State.writeBytes_capdata (s : State) (b : Buf) (off : Nat) (xs : List Byte) : (s.writeBytes b off xs).capdata = s.capdata := rfl
@[simp] theorem State.writeBytes_capshort (s : State) (b : Buf) (off : Nat) (xs : List Byte) : (s.writeBytes b off xs).capshort = s.capshort := rfl
@[simp] theorem State.writeBytes_masksel (s : State) (b : Buf) (off : Nat) (xs : List Byte) : (s.writeBytes b off xs).masksel = s.masksel := rfl
@[simp] theorem State.writeBytes_fmtbits (s : State) (b : Buf) (off : Nat) (xs : List Byte) : (s.writeBytes b off xs).fmtbits = s.fmtbits := rfl
@[simp] theorem State.writeBytes_verbits (s : State) (b : Buf) (off : Nat) (xs : List Byte) : (s.writeBytes b off xs).verbits = s.verbits := rfl
@[simp] theorem State.writeBytes_pen (s : State) (b : Buf) (off : Nat) (xs : List Byte) : (s.writeBytes b off xs).pen = s.pen := rfl
@[simp] theorem State.writeBytes_mem (s : State) (b : Buf) (off : Nat) (xs : List Byte) :
    (s.writeBytes b off xs).mem = s.mem.writeRun (b.base + off) xs := rfl
@[simp] theorem State.writeBytes_grid (s : State) (b : Buf) (off : Nat) (xs : List Byte) : (s.writeBytes b off xs).grid = s.grid := rfl
@[simp] theorem State.writeBytes_inputs (s : State) (b : Buf) (off : Nat) (xs : List Byte) : (s.writeBytes b off xs).inputs = s.inputs := rfl
@[simp] theorem State.writeBytes_rdata (s : State) (b : Buf) (off : Nat) (xs : List Byte) : (s.writeBytes b off xs).rdata = s.rdata := rfl
@[simp] theorem State.writeBytes_draws (s : State) (b : Buf) (off : Nat) (xs : List Byte) : (s.writeBytes b off xs).draws = s.draws := rfl

/-! ### withCapacity -/

@[simp] theorem State.withCapacity_engine (s : State) (T : QrTables) (v : Nat) (e : EccLevel) : (s.withCapacity T v e).engine = s.engine := rfl
@[simp] theorem State.withCapacity_cmd (s : State) (T : QrTables) (v : Nat) (e : EccLevel) : (s.withCapacity T v e).cmd = s.cmd := rfl
@[simp] theorem State.withCapacity_status (s : State) (T : QrTables) (v : Nat) (e : EccLevel) : (s.withCapacity T v e).status = s.status := rfl
@[simp] theorem State.withCapacity_config (s : State) (T : QrTables) (v : Nat) (e : EccLevel) : (s.withCapacity T v e).config = s.config := rfl
@[simp] theorem State.withCapacity_opa (s : State) (T : QrTables) (v : Nat) (e : EccLevel) : (s.withCapacity T v e).opa = s.opa := rfl
@[simp] theorem State.withCapacity_opb (s : State) (T : QrTables) (v : Nat) (e : EccLevel) : (s.withCapacity T v e).opb = s.opb := rfl
@[simp] theorem State.withCapacity_opc (s : State) (T : QrTables) (v : Nat) (e : EccLevel) : (s.withCapacity T v e).opc = s.opc := rfl
@[simp] theorem State.withCapacity_result (s : State) (T : QrTables) (v : Nat) (e : EccLevel) : (s.withCapacity T v e).result = s.result := rfl
@[simp] theorem State.withCapacity_dlen (s : State) (T : QrTables) (v : Nat) (e : EccLevel) : (s.withCapacity T v e).dlen = s.dlen := rfl
@[simp] theorem State.withCapacity_cwlen (s : State) (T : QrTables) (v : Nat) (e : EccLevel) : (s.withCapacity T v e).cwlen = s.cwlen := rfl
@[simp] theorem State.withCapacity_glen (s : State) (T : QrTables) (v : Nat) (e : EccLevel) : (s.withCapacity T v e).glen = s.glen := rfl
@[simp] theorem State.withCapacity_gridstat (s : State) (T : QrTables) (v : Nat) (e : EccLevel) : (s.withCapacity T v e).gridstat = s.gridstat := rfl
@[simp] theorem State.withCapacity_capblk (s : State) (T : QrTables) (v : Nat) (e : EccLevel) :
    (s.withCapacity T v e).capblk = BitVec.ofNat 8 (numBlocks T v e) := rfl
@[simp] theorem State.withCapacity_capecc (s : State) (T : QrTables) (v : Nat) (e : EccLevel) :
    (s.withCapacity T v e).capecc = BitVec.ofNat 8 (eccPerBlock T v e) := rfl
@[simp] theorem State.withCapacity_capraw (s : State) (T : QrTables) (v : Nat) (e : EccLevel) :
    (s.withCapacity T v e).capraw = BitVec.ofNat 16 (rawDataModules v) := rfl
@[simp] theorem State.withCapacity_capdata (s : State) (T : QrTables) (v : Nat) (e : EccLevel) :
    (s.withCapacity T v e).capdata = BitVec.ofNat 16 (dataCapacity T v e) := rfl
@[simp] theorem State.withCapacity_capshort (s : State) (T : QrTables) (v : Nat) (e : EccLevel) :
    (s.withCapacity T v e).capshort = { numShort := BitVec.ofNat 16 (numShortBlocks T v e), shortLen := BitVec.ofNat 16 (shortBlockLen T v e) } := rfl
@[simp] theorem State.withCapacity_masksel (s : State) (T : QrTables) (v : Nat) (e : EccLevel) : (s.withCapacity T v e).masksel = s.masksel := rfl
@[simp] theorem State.withCapacity_fmtbits (s : State) (T : QrTables) (v : Nat) (e : EccLevel) : (s.withCapacity T v e).fmtbits = s.fmtbits := rfl
@[simp] theorem State.withCapacity_verbits (s : State) (T : QrTables) (v : Nat) (e : EccLevel) : (s.withCapacity T v e).verbits = s.verbits := rfl
@[simp] theorem State.withCapacity_pen (s : State) (T : QrTables) (v : Nat) (e : EccLevel) : (s.withCapacity T v e).pen = s.pen := rfl
@[simp] theorem State.withCapacity_mem (s : State) (T : QrTables) (v : Nat) (e : EccLevel) : (s.withCapacity T v e).mem = s.mem := rfl
@[simp] theorem State.withCapacity_grid (s : State) (T : QrTables) (v : Nat) (e : EccLevel) : (s.withCapacity T v e).grid = s.grid := rfl
@[simp] theorem State.withCapacity_inputs (s : State) (T : QrTables) (v : Nat) (e : EccLevel) : (s.withCapacity T v e).inputs = s.inputs := rfl
@[simp] theorem State.withCapacity_rdata (s : State) (T : QrTables) (v : Nat) (e : EccLevel) : (s.withCapacity T v e).rdata = s.rdata := rfl
@[simp] theorem State.withCapacity_draws (s : State) (T : QrTables) (v : Nat) (e : EccLevel) : (s.withCapacity T v e).draws = s.draws := rfl

/-! ### setPen -/

@[simp] theorem State.setPen_engine (s : State) (k : BitVec 3) (w : Word) : (s.setPen k w).engine = s.engine := rfl
@[simp] theorem State.setPen_cmd (s : State) (k : BitVec 3) (w : Word) : (s.setPen k w).cmd = s.cmd := rfl
@[simp] theorem State.setPen_status (s : State) (k : BitVec 3) (w : Word) : (s.setPen k w).status = s.status := rfl
@[simp] theorem State.setPen_config (s : State) (k : BitVec 3) (w : Word) : (s.setPen k w).config = s.config := rfl
@[simp] theorem State.setPen_opa (s : State) (k : BitVec 3) (w : Word) : (s.setPen k w).opa = s.opa := rfl
@[simp] theorem State.setPen_opb (s : State) (k : BitVec 3) (w : Word) : (s.setPen k w).opb = s.opb := rfl
@[simp] theorem State.setPen_opc (s : State) (k : BitVec 3) (w : Word) : (s.setPen k w).opc = s.opc := rfl
@[simp] theorem State.setPen_result (s : State) (k : BitVec 3) (w : Word) : (s.setPen k w).result = s.result := rfl
@[simp] theorem State.setPen_dlen (s : State) (k : BitVec 3) (w : Word) : (s.setPen k w).dlen = s.dlen := rfl
@[simp] theorem State.setPen_cwlen (s : State) (k : BitVec 3) (w : Word) : (s.setPen k w).cwlen = s.cwlen := rfl
@[simp] theorem State.setPen_glen (s : State) (k : BitVec 3) (w : Word) : (s.setPen k w).glen = s.glen := rfl
@[simp] theorem State.setPen_gridstat (s : State) (k : BitVec 3) (w : Word) : (s.setPen k w).gridstat = s.gridstat := rfl
@[simp] theorem State.setPen_capblk (s : State) (k : BitVec 3) (w : Word) : (s.setPen k w).capblk = s.capblk := rfl
@[simp] theorem State.setPen_capecc (s : State) (k : BitVec 3) (w : Word) : (s.setPen k w).capecc = s.capecc := rfl
@[simp] theorem State.setPen_capraw (s : State) (k : BitVec 3) (w : Word) : (s.setPen k w).capraw = s.capraw := rfl
@[simp] theorem State.setPen_capdata (s : State) (k : BitVec 3) (w : Word) : (s.setPen k w).capdata = s.capdata := rfl
@[simp] theorem State.setPen_capshort (s : State) (k : BitVec 3) (w : Word) : (s.setPen k w).capshort = s.capshort := rfl
@[simp] theorem State.setPen_masksel (s : State) (k : BitVec 3) (w : Word) : (s.setPen k w).masksel = s.masksel := rfl
@[simp] theorem State.setPen_fmtbits (s : State) (k : BitVec 3) (w : Word) : (s.setPen k w).fmtbits = s.fmtbits := rfl
@[simp] theorem State.setPen_verbits (s : State) (k : BitVec 3) (w : Word) : (s.setPen k w).verbits = s.verbits := rfl
@[simp] theorem State.setPen_mem (s : State) (k : BitVec 3) (w : Word) : (s.setPen k w).mem = s.mem := rfl
@[simp] theorem State.setPen_grid (s : State) (k : BitVec 3) (w : Word) : (s.setPen k w).grid = s.grid := rfl
@[simp] theorem State.setPen_inputs (s : State) (k : BitVec 3) (w : Word) : (s.setPen k w).inputs = s.inputs := rfl
@[simp] theorem State.setPen_rdata (s : State) (k : BitVec 3) (w : Word) : (s.setPen k w).rdata = s.rdata := rfl
@[simp] theorem State.setPen_draws (s : State) (k : BitVec 3) (w : Word) : (s.setPen k w).draws = s.draws := rfl

/-! ### withSelection -/

@[simp] theorem State.withSelection_engine (s : State) (p : List Nat) : (s.withSelection p).engine = s.engine := rfl
@[simp] theorem State.withSelection_cmd (s : State) (p : List Nat) : (s.withSelection p).cmd = s.cmd := rfl
@[simp] theorem State.withSelection_status (s : State) (p : List Nat) : (s.withSelection p).status = s.status := rfl
@[simp] theorem State.withSelection_config (s : State) (p : List Nat) : (s.withSelection p).config = s.config := rfl
@[simp] theorem State.withSelection_opa (s : State) (p : List Nat) : (s.withSelection p).opa = s.opa := rfl
@[simp] theorem State.withSelection_opb (s : State) (p : List Nat) : (s.withSelection p).opb = s.opb := rfl
@[simp] theorem State.withSelection_opc (s : State) (p : List Nat) : (s.withSelection p).opc = s.opc := rfl
@[simp] theorem State.withSelection_result (s : State) (p : List Nat) : (s.withSelection p).result = s.result := rfl
@[simp] theorem State.withSelection_dlen (s : State) (p : List Nat) : (s.withSelection p).dlen = s.dlen := rfl
@[simp] theorem State.withSelection_cwlen (s : State) (p : List Nat) : (s.withSelection p).cwlen = s.cwlen := rfl
@[simp] theorem State.withSelection_glen (s : State) (p : List Nat) : (s.withSelection p).glen = s.glen := rfl
@[simp] theorem State.withSelection_gridstat (s : State) (p : List Nat) :
    (s.withSelection p).gridstat = { s.gridstat with sel := true } := rfl
@[simp] theorem State.withSelection_capblk (s : State) (p : List Nat) : (s.withSelection p).capblk = s.capblk := rfl
@[simp] theorem State.withSelection_capecc (s : State) (p : List Nat) : (s.withSelection p).capecc = s.capecc := rfl
@[simp] theorem State.withSelection_capraw (s : State) (p : List Nat) : (s.withSelection p).capraw = s.capraw := rfl
@[simp] theorem State.withSelection_capdata (s : State) (p : List Nat) : (s.withSelection p).capdata = s.capdata := rfl
@[simp] theorem State.withSelection_capshort (s : State) (p : List Nat) : (s.withSelection p).capshort = s.capshort := rfl
@[simp] theorem State.withSelection_masksel (s : State) (p : List Nat) :
    (s.withSelection p).masksel = BitVec.ofNat 3 (leastIndex p) := rfl
@[simp] theorem State.withSelection_fmtbits (s : State) (p : List Nat) : (s.withSelection p).fmtbits = s.fmtbits := rfl
@[simp] theorem State.withSelection_verbits (s : State) (p : List Nat) : (s.withSelection p).verbits = s.verbits := rfl
@[simp] theorem State.withSelection_pen (s : State) (p : List Nat) :
    (s.withSelection p).pen = penVector p := rfl
@[simp] theorem State.withSelection_mem (s : State) (p : List Nat) : (s.withSelection p).mem = s.mem := rfl
@[simp] theorem State.withSelection_grid (s : State) (p : List Nat) : (s.withSelection p).grid = s.grid := rfl
@[simp] theorem State.withSelection_inputs (s : State) (p : List Nat) : (s.withSelection p).inputs = s.inputs := rfl
@[simp] theorem State.withSelection_rdata (s : State) (p : List Nat) : (s.withSelection p).rdata = s.rdata := rfl
@[simp] theorem State.withSelection_draws (s : State) (p : List Nat) : (s.withSelection p).draws = s.draws := rfl

/-! ### doFmtwrite -/

@[simp] theorem State.doFmtwrite_engine (s : State) (k : BitVec 3) : (s.doFmtwrite k).engine = s.engine := rfl
@[simp] theorem State.doFmtwrite_cmd (s : State) (k : BitVec 3) : (s.doFmtwrite k).cmd = s.cmd := rfl
@[simp] theorem State.doFmtwrite_status (s : State) (k : BitVec 3) : (s.doFmtwrite k).status = s.status := rfl
@[simp] theorem State.doFmtwrite_config (s : State) (k : BitVec 3) : (s.doFmtwrite k).config = s.config := rfl
@[simp] theorem State.doFmtwrite_opa (s : State) (k : BitVec 3) : (s.doFmtwrite k).opa = s.opa := rfl
@[simp] theorem State.doFmtwrite_opb (s : State) (k : BitVec 3) : (s.doFmtwrite k).opb = s.opb := rfl
@[simp] theorem State.doFmtwrite_opc (s : State) (k : BitVec 3) : (s.doFmtwrite k).opc = s.opc := rfl
@[simp] theorem State.doFmtwrite_result (s : State) (k : BitVec 3) : (s.doFmtwrite k).result = s.result := rfl
@[simp] theorem State.doFmtwrite_dlen (s : State) (k : BitVec 3) : (s.doFmtwrite k).dlen = s.dlen := rfl
@[simp] theorem State.doFmtwrite_cwlen (s : State) (k : BitVec 3) : (s.doFmtwrite k).cwlen = s.cwlen := rfl
@[simp] theorem State.doFmtwrite_glen (s : State) (k : BitVec 3) : (s.doFmtwrite k).glen = s.glen := rfl
@[simp] theorem State.doFmtwrite_gridstat (s : State) (k : BitVec 3) : (s.doFmtwrite k).gridstat = s.gridstat := rfl
@[simp] theorem State.doFmtwrite_capblk (s : State) (k : BitVec 3) : (s.doFmtwrite k).capblk = s.capblk := rfl
@[simp] theorem State.doFmtwrite_capecc (s : State) (k : BitVec 3) : (s.doFmtwrite k).capecc = s.capecc := rfl
@[simp] theorem State.doFmtwrite_capraw (s : State) (k : BitVec 3) : (s.doFmtwrite k).capraw = s.capraw := rfl
@[simp] theorem State.doFmtwrite_capdata (s : State) (k : BitVec 3) : (s.doFmtwrite k).capdata = s.capdata := rfl
@[simp] theorem State.doFmtwrite_capshort (s : State) (k : BitVec 3) : (s.doFmtwrite k).capshort = s.capshort := rfl
@[simp] theorem State.doFmtwrite_masksel (s : State) (k : BitVec 3) : (s.doFmtwrite k).masksel = s.masksel := rfl
@[simp] theorem State.doFmtwrite_fmtbits (s : State) (k : BitVec 3) :
    (s.doFmtwrite k).fmtbits = formatWord s.config.ecl k.toNat := rfl
@[simp] theorem State.doFmtwrite_verbits (s : State) (k : BitVec 3) : (s.doFmtwrite k).verbits = s.verbits := rfl
@[simp] theorem State.doFmtwrite_pen (s : State) (k : BitVec 3) : (s.doFmtwrite k).pen = s.pen := rfl
@[simp] theorem State.doFmtwrite_mem (s : State) (k : BitVec 3) : (s.doFmtwrite k).mem = s.mem := rfl
@[simp] theorem State.doFmtwrite_grid (s : State) (k : BitVec 3) :
    (s.doFmtwrite k).grid = writeFormat s.gridSide (formatWord s.config.ecl k.toNat) s.grid := by
  simp only [State.doFmtwrite]
@[simp] theorem State.doFmtwrite_inputs (s : State) (k : BitVec 3) : (s.doFmtwrite k).inputs = s.inputs := rfl
@[simp] theorem State.doFmtwrite_rdata (s : State) (k : BitVec 3) : (s.doFmtwrite k).rdata = s.rdata := rfl
@[simp] theorem State.doFmtwrite_draws (s : State) (k : BitVec 3) : (s.doFmtwrite k).draws = s.draws := rfl

/-! ### doVerwrite -/

@[simp] theorem State.doVerwrite_engine (s : State) : (s.doVerwrite).engine = s.engine := rfl
@[simp] theorem State.doVerwrite_cmd (s : State) : (s.doVerwrite).cmd = s.cmd := rfl
@[simp] theorem State.doVerwrite_status (s : State) : (s.doVerwrite).status = s.status := rfl
@[simp] theorem State.doVerwrite_config (s : State) : (s.doVerwrite).config = s.config := rfl
@[simp] theorem State.doVerwrite_opa (s : State) : (s.doVerwrite).opa = s.opa := rfl
@[simp] theorem State.doVerwrite_opb (s : State) : (s.doVerwrite).opb = s.opb := rfl
@[simp] theorem State.doVerwrite_opc (s : State) : (s.doVerwrite).opc = s.opc := rfl
@[simp] theorem State.doVerwrite_result (s : State) : (s.doVerwrite).result = s.result := rfl
@[simp] theorem State.doVerwrite_dlen (s : State) : (s.doVerwrite).dlen = s.dlen := rfl
@[simp] theorem State.doVerwrite_cwlen (s : State) : (s.doVerwrite).cwlen = s.cwlen := rfl
@[simp] theorem State.doVerwrite_glen (s : State) : (s.doVerwrite).glen = s.glen := rfl
@[simp] theorem State.doVerwrite_gridstat (s : State) : (s.doVerwrite).gridstat = s.gridstat := rfl
@[simp] theorem State.doVerwrite_capblk (s : State) : (s.doVerwrite).capblk = s.capblk := rfl
@[simp] theorem State.doVerwrite_capecc (s : State) : (s.doVerwrite).capecc = s.capecc := rfl
@[simp] theorem State.doVerwrite_capraw (s : State) : (s.doVerwrite).capraw = s.capraw := rfl
@[simp] theorem State.doVerwrite_capdata (s : State) : (s.doVerwrite).capdata = s.capdata := rfl
@[simp] theorem State.doVerwrite_capshort (s : State) : (s.doVerwrite).capshort = s.capshort := rfl
@[simp] theorem State.doVerwrite_masksel (s : State) : (s.doVerwrite).masksel = s.masksel := rfl
@[simp] theorem State.doVerwrite_fmtbits (s : State) : (s.doVerwrite).fmtbits = s.fmtbits := rfl
@[simp] theorem State.doVerwrite_verbits (s : State) :
    (s.doVerwrite).verbits = if 7 ≤ s.gverNat then versionWord s.gverNat else 0 := rfl
@[simp] theorem State.doVerwrite_pen (s : State) : (s.doVerwrite).pen = s.pen := rfl
@[simp] theorem State.doVerwrite_mem (s : State) : (s.doVerwrite).mem = s.mem := rfl
@[simp] theorem State.doVerwrite_grid (s : State) :
    (s.doVerwrite).grid = writeVersion s.gverNat s.gridSide s.grid := by
  simp only [State.doVerwrite]
@[simp] theorem State.doVerwrite_inputs (s : State) : (s.doVerwrite).inputs = s.inputs := rfl
@[simp] theorem State.doVerwrite_rdata (s : State) : (s.doVerwrite).rdata = s.rdata := rfl
@[simp] theorem State.doVerwrite_draws (s : State) : (s.doVerwrite).draws = s.draws := rfl

/-! ### doMask -/

@[simp] theorem State.doMask_engine (s : State) (T : QrTables) (k : BitVec 3) : (s.doMask T k).engine = s.engine := rfl
@[simp] theorem State.doMask_cmd (s : State) (T : QrTables) (k : BitVec 3) : (s.doMask T k).cmd = s.cmd := rfl
@[simp] theorem State.doMask_status (s : State) (T : QrTables) (k : BitVec 3) : (s.doMask T k).status = s.status := rfl
@[simp] theorem State.doMask_config (s : State) (T : QrTables) (k : BitVec 3) : (s.doMask T k).config = s.config := rfl
@[simp] theorem State.doMask_opa (s : State) (T : QrTables) (k : BitVec 3) : (s.doMask T k).opa = s.opa := rfl
@[simp] theorem State.doMask_opb (s : State) (T : QrTables) (k : BitVec 3) : (s.doMask T k).opb = s.opb := rfl
@[simp] theorem State.doMask_opc (s : State) (T : QrTables) (k : BitVec 3) : (s.doMask T k).opc = s.opc := rfl
@[simp] theorem State.doMask_result (s : State) (T : QrTables) (k : BitVec 3) : (s.doMask T k).result = s.result := rfl
@[simp] theorem State.doMask_dlen (s : State) (T : QrTables) (k : BitVec 3) : (s.doMask T k).dlen = s.dlen := rfl
@[simp] theorem State.doMask_cwlen (s : State) (T : QrTables) (k : BitVec 3) : (s.doMask T k).cwlen = s.cwlen := rfl
@[simp] theorem State.doMask_glen (s : State) (T : QrTables) (k : BitVec 3) : (s.doMask T k).glen = s.glen := rfl
@[simp] theorem State.doMask_gridstat (s : State) (T : QrTables) (k : BitVec 3) : (s.doMask T k).gridstat = s.gridstat := rfl
@[simp] theorem State.doMask_capblk (s : State) (T : QrTables) (k : BitVec 3) : (s.doMask T k).capblk = s.capblk := rfl
@[simp] theorem State.doMask_capecc (s : State) (T : QrTables) (k : BitVec 3) : (s.doMask T k).capecc = s.capecc := rfl
@[simp] theorem State.doMask_capraw (s : State) (T : QrTables) (k : BitVec 3) : (s.doMask T k).capraw = s.capraw := rfl
@[simp] theorem State.doMask_capdata (s : State) (T : QrTables) (k : BitVec 3) : (s.doMask T k).capdata = s.capdata := rfl
@[simp] theorem State.doMask_capshort (s : State) (T : QrTables) (k : BitVec 3) : (s.doMask T k).capshort = s.capshort := rfl
@[simp] theorem State.doMask_masksel (s : State) (T : QrTables) (k : BitVec 3) : (s.doMask T k).masksel = s.masksel := rfl
@[simp] theorem State.doMask_fmtbits (s : State) (T : QrTables) (k : BitVec 3) : (s.doMask T k).fmtbits = s.fmtbits := rfl
@[simp] theorem State.doMask_verbits (s : State) (T : QrTables) (k : BitVec 3) : (s.doMask T k).verbits = s.verbits := rfl
@[simp] theorem State.doMask_pen (s : State) (T : QrTables) (k : BitVec 3) : (s.doMask T k).pen = s.pen := rfl
@[simp] theorem State.doMask_mem (s : State) (T : QrTables) (k : BitVec 3) : (s.doMask T k).mem = s.mem := rfl
@[simp] theorem State.doMask_grid (s : State) (T : QrTables) (k : BitVec 3) :
    (s.doMask T k).grid = maskGrid T k.toNat s.gridSide s.grid := by
  simp only [State.doMask]
@[simp] theorem State.doMask_inputs (s : State) (T : QrTables) (k : BitVec 3) : (s.doMask T k).inputs = s.inputs := rfl
@[simp] theorem State.doMask_rdata (s : State) (T : QrTables) (k : BitVec 3) : (s.doMask T k).rdata = s.rdata := rfl
@[simp] theorem State.doMask_draws (s : State) (T : QrTables) (k : BitVec 3) : (s.doMask T k).draws = s.draws := rfl

/-! ### markFinal -/

@[simp] theorem State.markFinal_engine (s : State) : (s.markFinal).engine = s.engine := rfl
@[simp] theorem State.markFinal_cmd (s : State) : (s.markFinal).cmd = s.cmd := rfl
@[simp] theorem State.markFinal_status (s : State) : (s.markFinal).status = s.status := rfl
@[simp] theorem State.markFinal_config (s : State) : (s.markFinal).config = s.config := rfl
@[simp] theorem State.markFinal_opa (s : State) : (s.markFinal).opa = s.opa := rfl
@[simp] theorem State.markFinal_opb (s : State) : (s.markFinal).opb = s.opb := rfl
@[simp] theorem State.markFinal_opc (s : State) : (s.markFinal).opc = s.opc := rfl
@[simp] theorem State.markFinal_result (s : State) : (s.markFinal).result = s.result := rfl
@[simp] theorem State.markFinal_dlen (s : State) : (s.markFinal).dlen = s.dlen := rfl
@[simp] theorem State.markFinal_cwlen (s : State) : (s.markFinal).cwlen = s.cwlen := rfl
@[simp] theorem State.markFinal_glen (s : State) : (s.markFinal).glen = s.glen := rfl
@[simp] theorem State.markFinal_gridstat (s : State) :
    (s.markFinal).gridstat = { s.gridstat with final := true, sel := false } := rfl
@[simp] theorem State.markFinal_capblk (s : State) : (s.markFinal).capblk = s.capblk := rfl
@[simp] theorem State.markFinal_capecc (s : State) : (s.markFinal).capecc = s.capecc := rfl
@[simp] theorem State.markFinal_capraw (s : State) : (s.markFinal).capraw = s.capraw := rfl
@[simp] theorem State.markFinal_capdata (s : State) : (s.markFinal).capdata = s.capdata := rfl
@[simp] theorem State.markFinal_capshort (s : State) : (s.markFinal).capshort = s.capshort := rfl
@[simp] theorem State.markFinal_masksel (s : State) : (s.markFinal).masksel = s.masksel := rfl
@[simp] theorem State.markFinal_fmtbits (s : State) : (s.markFinal).fmtbits = s.fmtbits := rfl
@[simp] theorem State.markFinal_verbits (s : State) : (s.markFinal).verbits = s.verbits := rfl
@[simp] theorem State.markFinal_pen (s : State) : (s.markFinal).pen = s.pen := rfl
@[simp] theorem State.markFinal_mem (s : State) : (s.markFinal).mem = s.mem := rfl
@[simp] theorem State.markFinal_grid (s : State) : (s.markFinal).grid = s.grid := rfl
@[simp] theorem State.markFinal_inputs (s : State) : (s.markFinal).inputs = s.inputs := rfl
@[simp] theorem State.markFinal_rdata (s : State) : (s.markFinal).rdata = s.rdata := rfl
@[simp] theorem State.markFinal_draws (s : State) : (s.markFinal).draws = s.draws := rfl

/-! ### doFinder -/

@[simp] theorem State.doFinder_engine (s : State) : (s.doFinder).engine = s.engine := rfl
@[simp] theorem State.doFinder_cmd (s : State) : (s.doFinder).cmd = s.cmd := rfl
@[simp] theorem State.doFinder_status (s : State) : (s.doFinder).status = s.status := rfl
@[simp] theorem State.doFinder_config (s : State) : (s.doFinder).config = s.config := rfl
@[simp] theorem State.doFinder_opa (s : State) : (s.doFinder).opa = s.opa := rfl
@[simp] theorem State.doFinder_opb (s : State) : (s.doFinder).opb = s.opb := rfl
@[simp] theorem State.doFinder_opc (s : State) : (s.doFinder).opc = s.opc := rfl
@[simp] theorem State.doFinder_result (s : State) : (s.doFinder).result = s.result := rfl
@[simp] theorem State.doFinder_dlen (s : State) : (s.doFinder).dlen = s.dlen := rfl
@[simp] theorem State.doFinder_cwlen (s : State) : (s.doFinder).cwlen = s.cwlen := rfl
@[simp] theorem State.doFinder_glen (s : State) : (s.doFinder).glen = s.glen := rfl
@[simp] theorem State.doFinder_gridstat (s : State) :
    (s.doFinder).gridstat = { s.gridstat with sFinder := true } := rfl
@[simp] theorem State.doFinder_capblk (s : State) : (s.doFinder).capblk = s.capblk := rfl
@[simp] theorem State.doFinder_capecc (s : State) : (s.doFinder).capecc = s.capecc := rfl
@[simp] theorem State.doFinder_capraw (s : State) : (s.doFinder).capraw = s.capraw := rfl
@[simp] theorem State.doFinder_capdata (s : State) : (s.doFinder).capdata = s.capdata := rfl
@[simp] theorem State.doFinder_capshort (s : State) : (s.doFinder).capshort = s.capshort := rfl
@[simp] theorem State.doFinder_masksel (s : State) : (s.doFinder).masksel = s.masksel := rfl
@[simp] theorem State.doFinder_fmtbits (s : State) : (s.doFinder).fmtbits = s.fmtbits := rfl
@[simp] theorem State.doFinder_verbits (s : State) : (s.doFinder).verbits = s.verbits := rfl
@[simp] theorem State.doFinder_pen (s : State) : (s.doFinder).pen = s.pen := rfl
@[simp] theorem State.doFinder_mem (s : State) : (s.doFinder).mem = s.mem := rfl
@[simp] theorem State.doFinder_grid (s : State) :
    (s.doFinder).grid = s.stamped (finderStamps s.gridSide) := by
  simp only [State.doFinder]
@[simp] theorem State.doFinder_inputs (s : State) : (s.doFinder).inputs = s.inputs := rfl
@[simp] theorem State.doFinder_rdata (s : State) : (s.doFinder).rdata = s.rdata := rfl
@[simp] theorem State.doFinder_draws (s : State) : (s.doFinder).draws = s.draws := rfl

/-! ### doSep -/

@[simp] theorem State.doSep_engine (s : State) : (s.doSep).engine = s.engine := rfl
@[simp] theorem State.doSep_cmd (s : State) : (s.doSep).cmd = s.cmd := rfl
@[simp] theorem State.doSep_status (s : State) : (s.doSep).status = s.status := rfl
@[simp] theorem State.doSep_config (s : State) : (s.doSep).config = s.config := rfl
@[simp] theorem State.doSep_opa (s : State) : (s.doSep).opa = s.opa := rfl
@[simp] theorem State.doSep_opb (s : State) : (s.doSep).opb = s.opb := rfl
@[simp] theorem State.doSep_opc (s : State) : (s.doSep).opc = s.opc := rfl
@[simp] theorem State.doSep_result (s : State) : (s.doSep).result = s.result := rfl
@[simp] theorem State.doSep_dlen (s : State) : (s.doSep).dlen = s.dlen := rfl
@[simp] theorem State.doSep_cwlen (s : State) : (s.doSep).cwlen = s.cwlen := rfl
@[simp] theorem State.doSep_glen (s : State) : (s.doSep).glen = s.glen := rfl
@[simp] theorem State.doSep_gridstat (s : State) :
    (s.doSep).gridstat = { s.gridstat with sSep := true } := rfl
@[simp] theorem State.doSep_capblk (s : State) : (s.doSep).capblk = s.capblk := rfl
@[simp] theorem State.doSep_capecc (s : State) : (s.doSep).capecc = s.capecc := rfl
@[simp] theorem State.doSep_capraw (s : State) : (s.doSep).capraw = s.capraw := rfl
@[simp] theorem State.doSep_capdata (s : State) : (s.doSep).capdata = s.capdata := rfl
@[simp] theorem State.doSep_capshort (s : State) : (s.doSep).capshort = s.capshort := rfl
@[simp] theorem State.doSep_masksel (s : State) : (s.doSep).masksel = s.masksel := rfl
@[simp] theorem State.doSep_fmtbits (s : State) : (s.doSep).fmtbits = s.fmtbits := rfl
@[simp] theorem State.doSep_verbits (s : State) : (s.doSep).verbits = s.verbits := rfl
@[simp] theorem State.doSep_pen (s : State) : (s.doSep).pen = s.pen := rfl
@[simp] theorem State.doSep_mem (s : State) : (s.doSep).mem = s.mem := rfl
@[simp] theorem State.doSep_grid (s : State) :
    (s.doSep).grid = s.stamped (separatorStamps s.gridSide) := by
  simp only [State.doSep]
@[simp] theorem State.doSep_inputs (s : State) : (s.doSep).inputs = s.inputs := rfl
@[simp] theorem State.doSep_rdata (s : State) : (s.doSep).rdata = s.rdata := rfl
@[simp] theorem State.doSep_draws (s : State) : (s.doSep).draws = s.draws := rfl

/-! ### doTiming -/

@[simp] theorem State.doTiming_engine (s : State) : (s.doTiming).engine = s.engine := rfl
@[simp] theorem State.doTiming_cmd (s : State) : (s.doTiming).cmd = s.cmd := rfl
@[simp] theorem State.doTiming_status (s : State) : (s.doTiming).status = s.status := rfl
@[simp] theorem State.doTiming_config (s : State) : (s.doTiming).config = s.config := rfl
@[simp] theorem State.doTiming_opa (s : State) : (s.doTiming).opa = s.opa := rfl
@[simp] theorem State.doTiming_opb (s : State) : (s.doTiming).opb = s.opb := rfl
@[simp] theorem State.doTiming_opc (s : State) : (s.doTiming).opc = s.opc := rfl
@[simp] theorem State.doTiming_result (s : State) : (s.doTiming).result = s.result := rfl
@[simp] theorem State.doTiming_dlen (s : State) : (s.doTiming).dlen = s.dlen := rfl
@[simp] theorem State.doTiming_cwlen (s : State) : (s.doTiming).cwlen = s.cwlen := rfl
@[simp] theorem State.doTiming_glen (s : State) : (s.doTiming).glen = s.glen := rfl
@[simp] theorem State.doTiming_gridstat (s : State) :
    (s.doTiming).gridstat = { s.gridstat with sTiming := true } := rfl
@[simp] theorem State.doTiming_capblk (s : State) : (s.doTiming).capblk = s.capblk := rfl
@[simp] theorem State.doTiming_capecc (s : State) : (s.doTiming).capecc = s.capecc := rfl
@[simp] theorem State.doTiming_capraw (s : State) : (s.doTiming).capraw = s.capraw := rfl
@[simp] theorem State.doTiming_capdata (s : State) : (s.doTiming).capdata = s.capdata := rfl
@[simp] theorem State.doTiming_capshort (s : State) : (s.doTiming).capshort = s.capshort := rfl
@[simp] theorem State.doTiming_masksel (s : State) : (s.doTiming).masksel = s.masksel := rfl
@[simp] theorem State.doTiming_fmtbits (s : State) : (s.doTiming).fmtbits = s.fmtbits := rfl
@[simp] theorem State.doTiming_verbits (s : State) : (s.doTiming).verbits = s.verbits := rfl
@[simp] theorem State.doTiming_pen (s : State) : (s.doTiming).pen = s.pen := rfl
@[simp] theorem State.doTiming_mem (s : State) : (s.doTiming).mem = s.mem := rfl
@[simp] theorem State.doTiming_grid (s : State) :
    (s.doTiming).grid = s.stamped (timingStamps s.gridSide) := by
  simp only [State.doTiming]
@[simp] theorem State.doTiming_inputs (s : State) : (s.doTiming).inputs = s.inputs := rfl
@[simp] theorem State.doTiming_rdata (s : State) : (s.doTiming).rdata = s.rdata := rfl
@[simp] theorem State.doTiming_draws (s : State) : (s.doTiming).draws = s.draws := rfl

/-! ### doAlign -/

@[simp] theorem State.doAlign_engine (s : State) (T : QrTables) : (s.doAlign T).engine = s.engine := rfl
@[simp] theorem State.doAlign_cmd (s : State) (T : QrTables) : (s.doAlign T).cmd = s.cmd := rfl
@[simp] theorem State.doAlign_status (s : State) (T : QrTables) : (s.doAlign T).status = s.status := rfl
@[simp] theorem State.doAlign_config (s : State) (T : QrTables) : (s.doAlign T).config = s.config := rfl
@[simp] theorem State.doAlign_opa (s : State) (T : QrTables) : (s.doAlign T).opa = s.opa := rfl
@[simp] theorem State.doAlign_opb (s : State) (T : QrTables) : (s.doAlign T).opb = s.opb := rfl
@[simp] theorem State.doAlign_opc (s : State) (T : QrTables) : (s.doAlign T).opc = s.opc := rfl
@[simp] theorem State.doAlign_result (s : State) (T : QrTables) : (s.doAlign T).result = s.result := rfl
@[simp] theorem State.doAlign_dlen (s : State) (T : QrTables) : (s.doAlign T).dlen = s.dlen := rfl
@[simp] theorem State.doAlign_cwlen (s : State) (T : QrTables) : (s.doAlign T).cwlen = s.cwlen := rfl
@[simp] theorem State.doAlign_glen (s : State) (T : QrTables) : (s.doAlign T).glen = s.glen := rfl
@[simp] theorem State.doAlign_gridstat (s : State) (T : QrTables) :
    (s.doAlign T).gridstat = { s.gridstat with sAlign := true } := rfl
@[simp] theorem State.doAlign_capblk (s : State) (T : QrTables) : (s.doAlign T).capblk = s.capblk := rfl
@[simp] theorem State.doAlign_capecc (s : State) (T : QrTables) : (s.doAlign T).capecc = s.capecc := rfl
@[simp] theorem State.doAlign_capraw (s : State) (T : QrTables) : (s.doAlign T).capraw = s.capraw := rfl
@[simp] theorem State.doAlign_capdata (s : State) (T : QrTables) : (s.doAlign T).capdata = s.capdata := rfl
@[simp] theorem State.doAlign_capshort (s : State) (T : QrTables) : (s.doAlign T).capshort = s.capshort := rfl
@[simp] theorem State.doAlign_masksel (s : State) (T : QrTables) : (s.doAlign T).masksel = s.masksel := rfl
@[simp] theorem State.doAlign_fmtbits (s : State) (T : QrTables) : (s.doAlign T).fmtbits = s.fmtbits := rfl
@[simp] theorem State.doAlign_verbits (s : State) (T : QrTables) : (s.doAlign T).verbits = s.verbits := rfl
@[simp] theorem State.doAlign_pen (s : State) (T : QrTables) : (s.doAlign T).pen = s.pen := rfl
@[simp] theorem State.doAlign_mem (s : State) (T : QrTables) : (s.doAlign T).mem = s.mem := rfl
@[simp] theorem State.doAlign_grid (s : State) (T : QrTables) :
    (s.doAlign T).grid = s.stamped (alignmentStamps (T.alignment s.gverNat)) := by
  simp only [State.doAlign]
@[simp] theorem State.doAlign_inputs (s : State) (T : QrTables) : (s.doAlign T).inputs = s.inputs := rfl
@[simp] theorem State.doAlign_rdata (s : State) (T : QrTables) : (s.doAlign T).rdata = s.rdata := rfl
@[simp] theorem State.doAlign_draws (s : State) (T : QrTables) : (s.doAlign T).draws = s.draws := rfl

/-! ### doReserveFmt -/

@[simp] theorem State.doReserveFmt_engine (s : State) : (s.doReserveFmt).engine = s.engine := rfl
@[simp] theorem State.doReserveFmt_cmd (s : State) : (s.doReserveFmt).cmd = s.cmd := rfl
@[simp] theorem State.doReserveFmt_status (s : State) : (s.doReserveFmt).status = s.status := rfl
@[simp] theorem State.doReserveFmt_config (s : State) : (s.doReserveFmt).config = s.config := rfl
@[simp] theorem State.doReserveFmt_opa (s : State) : (s.doReserveFmt).opa = s.opa := rfl
@[simp] theorem State.doReserveFmt_opb (s : State) : (s.doReserveFmt).opb = s.opb := rfl
@[simp] theorem State.doReserveFmt_opc (s : State) : (s.doReserveFmt).opc = s.opc := rfl
@[simp] theorem State.doReserveFmt_result (s : State) : (s.doReserveFmt).result = s.result := rfl
@[simp] theorem State.doReserveFmt_dlen (s : State) : (s.doReserveFmt).dlen = s.dlen := rfl
@[simp] theorem State.doReserveFmt_cwlen (s : State) : (s.doReserveFmt).cwlen = s.cwlen := rfl
@[simp] theorem State.doReserveFmt_glen (s : State) : (s.doReserveFmt).glen = s.glen := rfl
@[simp] theorem State.doReserveFmt_gridstat (s : State) :
    (s.doReserveFmt).gridstat = { s.gridstat with sFmt := true } := rfl
@[simp] theorem State.doReserveFmt_capblk (s : State) : (s.doReserveFmt).capblk = s.capblk := rfl
@[simp] theorem State.doReserveFmt_capecc (s : State) : (s.doReserveFmt).capecc = s.capecc := rfl
@[simp] theorem State.doReserveFmt_capraw (s : State) : (s.doReserveFmt).capraw = s.capraw := rfl
@[simp] theorem State.doReserveFmt_capdata (s : State) : (s.doReserveFmt).capdata = s.capdata := rfl
@[simp] theorem State.doReserveFmt_capshort (s : State) : (s.doReserveFmt).capshort = s.capshort := rfl
@[simp] theorem State.doReserveFmt_masksel (s : State) : (s.doReserveFmt).masksel = s.masksel := rfl
@[simp] theorem State.doReserveFmt_fmtbits (s : State) : (s.doReserveFmt).fmtbits = s.fmtbits := rfl
@[simp] theorem State.doReserveFmt_verbits (s : State) : (s.doReserveFmt).verbits = s.verbits := rfl
@[simp] theorem State.doReserveFmt_pen (s : State) : (s.doReserveFmt).pen = s.pen := rfl
@[simp] theorem State.doReserveFmt_mem (s : State) : (s.doReserveFmt).mem = s.mem := rfl
@[simp] theorem State.doReserveFmt_grid (s : State) :
    (s.doReserveFmt).grid = s.stamped (formatStamps s.gridSide) := by
  simp only [State.doReserveFmt]
@[simp] theorem State.doReserveFmt_inputs (s : State) : (s.doReserveFmt).inputs = s.inputs := rfl
@[simp] theorem State.doReserveFmt_rdata (s : State) : (s.doReserveFmt).rdata = s.rdata := rfl
@[simp] theorem State.doReserveFmt_draws (s : State) : (s.doReserveFmt).draws = s.draws := rfl

/-! ### doReserveVer -/

@[simp] theorem State.doReserveVer_engine (s : State) : (s.doReserveVer).engine = s.engine := rfl
@[simp] theorem State.doReserveVer_cmd (s : State) : (s.doReserveVer).cmd = s.cmd := rfl
@[simp] theorem State.doReserveVer_status (s : State) : (s.doReserveVer).status = s.status := rfl
@[simp] theorem State.doReserveVer_config (s : State) : (s.doReserveVer).config = s.config := rfl
@[simp] theorem State.doReserveVer_opa (s : State) : (s.doReserveVer).opa = s.opa := rfl
@[simp] theorem State.doReserveVer_opb (s : State) : (s.doReserveVer).opb = s.opb := rfl
@[simp] theorem State.doReserveVer_opc (s : State) : (s.doReserveVer).opc = s.opc := rfl
@[simp] theorem State.doReserveVer_result (s : State) : (s.doReserveVer).result = s.result := rfl
@[simp] theorem State.doReserveVer_dlen (s : State) : (s.doReserveVer).dlen = s.dlen := rfl
@[simp] theorem State.doReserveVer_cwlen (s : State) : (s.doReserveVer).cwlen = s.cwlen := rfl
@[simp] theorem State.doReserveVer_glen (s : State) : (s.doReserveVer).glen = s.glen := rfl
@[simp] theorem State.doReserveVer_gridstat (s : State) :
    (s.doReserveVer).gridstat = { s.gridstat with sVer := true } := rfl
@[simp] theorem State.doReserveVer_capblk (s : State) : (s.doReserveVer).capblk = s.capblk := rfl
@[simp] theorem State.doReserveVer_capecc (s : State) : (s.doReserveVer).capecc = s.capecc := rfl
@[simp] theorem State.doReserveVer_capraw (s : State) : (s.doReserveVer).capraw = s.capraw := rfl
@[simp] theorem State.doReserveVer_capdata (s : State) : (s.doReserveVer).capdata = s.capdata := rfl
@[simp] theorem State.doReserveVer_capshort (s : State) : (s.doReserveVer).capshort = s.capshort := rfl
@[simp] theorem State.doReserveVer_masksel (s : State) : (s.doReserveVer).masksel = s.masksel := rfl
@[simp] theorem State.doReserveVer_fmtbits (s : State) : (s.doReserveVer).fmtbits = s.fmtbits := rfl
@[simp] theorem State.doReserveVer_verbits (s : State) : (s.doReserveVer).verbits = s.verbits := rfl
@[simp] theorem State.doReserveVer_pen (s : State) : (s.doReserveVer).pen = s.pen := rfl
@[simp] theorem State.doReserveVer_mem (s : State) : (s.doReserveVer).mem = s.mem := rfl
@[simp] theorem State.doReserveVer_grid (s : State) :
    (s.doReserveVer).grid = s.stamped (versionStamps s.gverNat s.gridSide) := by
  simp only [State.doReserveVer]
@[simp] theorem State.doReserveVer_inputs (s : State) : (s.doReserveVer).inputs = s.inputs := rfl
@[simp] theorem State.doReserveVer_rdata (s : State) : (s.doReserveVer).rdata = s.rdata := rfl
@[simp] theorem State.doReserveVer_draws (s : State) : (s.doReserveVer).draws = s.draws := rfl

/-! ### doStampAll -/

@[simp] theorem State.doStampAll_engine (s : State) (T : QrTables) : (s.doStampAll T).engine = s.engine := by
  simp [State.doStampAll]
@[simp] theorem State.doStampAll_cmd (s : State) (T : QrTables) : (s.doStampAll T).cmd = s.cmd := by
  simp [State.doStampAll]
@[simp] theorem State.doStampAll_status (s : State) (T : QrTables) : (s.doStampAll T).status = s.status := by
  simp [State.doStampAll]
@[simp] theorem State.doStampAll_config (s : State) (T : QrTables) : (s.doStampAll T).config = s.config := by
  simp [State.doStampAll]
@[simp] theorem State.doStampAll_opa (s : State) (T : QrTables) : (s.doStampAll T).opa = s.opa := by
  simp [State.doStampAll]
@[simp] theorem State.doStampAll_opb (s : State) (T : QrTables) : (s.doStampAll T).opb = s.opb := by
  simp [State.doStampAll]
@[simp] theorem State.doStampAll_opc (s : State) (T : QrTables) : (s.doStampAll T).opc = s.opc := by
  simp [State.doStampAll]
@[simp] theorem State.doStampAll_result (s : State) (T : QrTables) : (s.doStampAll T).result = s.result := by
  simp [State.doStampAll]
@[simp] theorem State.doStampAll_dlen (s : State) (T : QrTables) : (s.doStampAll T).dlen = s.dlen := by
  simp [State.doStampAll]
@[simp] theorem State.doStampAll_cwlen (s : State) (T : QrTables) : (s.doStampAll T).cwlen = s.cwlen := by
  simp [State.doStampAll]
@[simp] theorem State.doStampAll_glen (s : State) (T : QrTables) : (s.doStampAll T).glen = s.glen := by
  simp [State.doStampAll]
@[simp] theorem State.doStampAll_gridstat (s : State) (T : QrTables) :
    (s.doStampAll T).gridstat = { s.gridstat with sFinder := true, sSep := true, sTiming := true, sAlign := true, sFmt := true, sVer := true } := by
  simp [State.doStampAll]
@[simp] theorem State.doStampAll_capblk (s : State) (T : QrTables) : (s.doStampAll T).capblk = s.capblk := by
  simp [State.doStampAll]
@[simp] theorem State.doStampAll_capecc (s : State) (T : QrTables) : (s.doStampAll T).capecc = s.capecc := by
  simp [State.doStampAll]
@[simp] theorem State.doStampAll_capraw (s : State) (T : QrTables) : (s.doStampAll T).capraw = s.capraw := by
  simp [State.doStampAll]
@[simp] theorem State.doStampAll_capdata (s : State) (T : QrTables) : (s.doStampAll T).capdata = s.capdata := by
  simp [State.doStampAll]
@[simp] theorem State.doStampAll_capshort (s : State) (T : QrTables) : (s.doStampAll T).capshort = s.capshort := by
  simp [State.doStampAll]
@[simp] theorem State.doStampAll_masksel (s : State) (T : QrTables) : (s.doStampAll T).masksel = s.masksel := by
  simp [State.doStampAll]
@[simp] theorem State.doStampAll_fmtbits (s : State) (T : QrTables) : (s.doStampAll T).fmtbits = s.fmtbits := by
  simp [State.doStampAll]
@[simp] theorem State.doStampAll_verbits (s : State) (T : QrTables) : (s.doStampAll T).verbits = s.verbits := by
  simp [State.doStampAll]
@[simp] theorem State.doStampAll_pen (s : State) (T : QrTables) : (s.doStampAll T).pen = s.pen := by
  simp [State.doStampAll]
@[simp] theorem State.doStampAll_mem (s : State) (T : QrTables) : (s.doStampAll T).mem = s.mem := by
  simp [State.doStampAll]
@[simp] theorem State.doStampAll_inputs (s : State) (T : QrTables) : (s.doStampAll T).inputs = s.inputs := by
  simp [State.doStampAll]
@[simp] theorem State.doStampAll_rdata (s : State) (T : QrTables) : (s.doStampAll T).rdata = s.rdata := by
  simp [State.doStampAll]
@[simp] theorem State.doStampAll_draws (s : State) (T : QrTables) : (s.doStampAll T).draws = s.draws := by
  simp [State.doStampAll]

/-! ### deliver -/

@[simp] theorem State.deliver_engine (s : State) (w : Word) : (s.deliver w).engine = s.engine := rfl
@[simp] theorem State.deliver_cmd (s : State) (w : Word) : (s.deliver w).cmd = s.cmd := rfl
@[simp] theorem State.deliver_status (s : State) (w : Word) : (s.deliver w).status = s.status := rfl
@[simp] theorem State.deliver_config (s : State) (w : Word) : (s.deliver w).config = s.config := rfl
@[simp] theorem State.deliver_opa (s : State) (w : Word) : (s.deliver w).opa = s.opa := rfl
@[simp] theorem State.deliver_opb (s : State) (w : Word) : (s.deliver w).opb = s.opb := rfl
@[simp] theorem State.deliver_opc (s : State) (w : Word) : (s.deliver w).opc = s.opc := rfl
@[simp] theorem State.deliver_result (s : State) (w : Word) : (s.deliver w).result = s.result := rfl
@[simp] theorem State.deliver_dlen (s : State) (w : Word) : (s.deliver w).dlen = s.dlen := rfl
@[simp] theorem State.deliver_cwlen (s : State) (w : Word) : (s.deliver w).cwlen = s.cwlen := rfl
@[simp] theorem State.deliver_glen (s : State) (w : Word) : (s.deliver w).glen = s.glen := rfl
@[simp] theorem State.deliver_gridstat (s : State) (w : Word) : (s.deliver w).gridstat = s.gridstat := rfl
@[simp] theorem State.deliver_capblk (s : State) (w : Word) : (s.deliver w).capblk = s.capblk := rfl
@[simp] theorem State.deliver_capecc (s : State) (w : Word) : (s.deliver w).capecc = s.capecc := rfl
@[simp] theorem State.deliver_capraw (s : State) (w : Word) : (s.deliver w).capraw = s.capraw := rfl
@[simp] theorem State.deliver_capdata (s : State) (w : Word) : (s.deliver w).capdata = s.capdata := rfl
@[simp] theorem State.deliver_capshort (s : State) (w : Word) : (s.deliver w).capshort = s.capshort := rfl
@[simp] theorem State.deliver_masksel (s : State) (w : Word) : (s.deliver w).masksel = s.masksel := rfl
@[simp] theorem State.deliver_fmtbits (s : State) (w : Word) : (s.deliver w).fmtbits = s.fmtbits := rfl
@[simp] theorem State.deliver_verbits (s : State) (w : Word) : (s.deliver w).verbits = s.verbits := rfl
@[simp] theorem State.deliver_pen (s : State) (w : Word) : (s.deliver w).pen = s.pen := rfl
@[simp] theorem State.deliver_mem (s : State) (w : Word) : (s.deliver w).mem = s.mem := rfl
@[simp] theorem State.deliver_grid (s : State) (w : Word) : (s.deliver w).grid = s.grid := rfl
@[simp] theorem State.deliver_inputs (s : State) (w : Word) : (s.deliver w).inputs = s.inputs := rfl
@[simp] theorem State.deliver_rdata (s : State) (w : Word) :
    (s.deliver w).rdata = some w := rfl
@[simp] theorem State.deliver_draws (s : State) (w : Word) : (s.deliver w).draws = s.draws := rfl

/-! ### writeBusy -/

@[simp] theorem State.writeBusy_engine (s : State) : (s.writeBusy).engine = s.engine := rfl
@[simp] theorem State.writeBusy_cmd (s : State) : (s.writeBusy).cmd = s.cmd := rfl
@[simp] theorem State.writeBusy_status (s : State) :
    (s.writeBusy).status = { s.status with overrun := true } := rfl
@[simp] theorem State.writeBusy_config (s : State) : (s.writeBusy).config = s.config := rfl
@[simp] theorem State.writeBusy_opa (s : State) : (s.writeBusy).opa = s.opa := rfl
@[simp] theorem State.writeBusy_opb (s : State) : (s.writeBusy).opb = s.opb := rfl
@[simp] theorem State.writeBusy_opc (s : State) : (s.writeBusy).opc = s.opc := rfl
@[simp] theorem State.writeBusy_result (s : State) : (s.writeBusy).result = s.result := rfl
@[simp] theorem State.writeBusy_dlen (s : State) : (s.writeBusy).dlen = s.dlen := rfl
@[simp] theorem State.writeBusy_cwlen (s : State) : (s.writeBusy).cwlen = s.cwlen := rfl
@[simp] theorem State.writeBusy_glen (s : State) : (s.writeBusy).glen = s.glen := rfl
@[simp] theorem State.writeBusy_gridstat (s : State) : (s.writeBusy).gridstat = s.gridstat := rfl
@[simp] theorem State.writeBusy_capblk (s : State) : (s.writeBusy).capblk = s.capblk := rfl
@[simp] theorem State.writeBusy_capecc (s : State) : (s.writeBusy).capecc = s.capecc := rfl
@[simp] theorem State.writeBusy_capraw (s : State) : (s.writeBusy).capraw = s.capraw := rfl
@[simp] theorem State.writeBusy_capdata (s : State) : (s.writeBusy).capdata = s.capdata := rfl
@[simp] theorem State.writeBusy_capshort (s : State) : (s.writeBusy).capshort = s.capshort := rfl
@[simp] theorem State.writeBusy_masksel (s : State) : (s.writeBusy).masksel = s.masksel := rfl
@[simp] theorem State.writeBusy_fmtbits (s : State) : (s.writeBusy).fmtbits = s.fmtbits := rfl
@[simp] theorem State.writeBusy_verbits (s : State) : (s.writeBusy).verbits = s.verbits := rfl
@[simp] theorem State.writeBusy_pen (s : State) : (s.writeBusy).pen = s.pen := rfl
@[simp] theorem State.writeBusy_mem (s : State) : (s.writeBusy).mem = s.mem := rfl
@[simp] theorem State.writeBusy_grid (s : State) : (s.writeBusy).grid = s.grid := rfl
@[simp] theorem State.writeBusy_inputs (s : State) : (s.writeBusy).inputs = s.inputs := rfl
@[simp] theorem State.writeBusy_rdata (s : State) : (s.writeBusy).rdata = s.rdata := rfl
@[simp] theorem State.writeBusy_draws (s : State) : (s.writeBusy).draws = s.draws := rfl

end Sys2Proof.Machine
end

