-- ==== Sys2Proof/Tests/Slice0.lean ====
section
/-! SUPPORT. The model's own tests. Every expected value is written out from the spec: the encoding rules
(R160 to R166), the rules' examples and corner cases, and the vectors of 95_test_vectors.md. The last
section shows, for each obligation with hypotheses, states and operands that meet them. -/

namespace Sys2Proof.Tests

open Sys2Proof.Machine Sys2Proof.Claims

/-! ### Helpers -/

/-- What `f` shows of the next state, if there is one. -/
def result {α : Type} (o : Host.Outcome State Fault Refusal) (f : State → α) : Option α :=
  match o with
  | .next t => some (f t)
  | .fault _ => none
  | .refused _ => none

/-- STATUS after a command. -/
def statusAfter (i : Instr) (s : State) : Option Word := result (exec i s) State.statusWord

/-- The reset state configured for version `v` and level `e`. -/
def configured (v : BitVec 6) (e : EccLevel) : State :=
  { State.reset with config := { version := v, ecl := e } }

/-- The reset state with the operand registers set. -/
def operands (a b c : Word) : State := { State.reset with opa := a, opb := b, opc := c }

/-- `s` with bytes written at the start of DBUF. -/
def withData (s : State) (xs : List Byte) : State := s.writeBytes .dbuf 0 xs

/-- GRIDSTAT of a grid of version `v` with every stamp done. -/
def stampedStat (v : BitVec 6) : GridStat :=
  { valid := true, sFinder := true, sSep := true, sTiming := true, sAlign := true, sFmt := true,
    sVer := true, placed := false, sel := false, final := false, gver := v }

/-- A state with GRIDSTAT and an empty grid. -/
def gridState (g : GridStat) : State := { State.reset with gridstat := g }

/-- The placed version 1 grid whose data modules are not looked at. -/
def placedState : State := gridState { stampedStat 1 with placed := true }

/-- Version 1 after GRIDINIT and STAMP_ALL. -/
def stampedState : State := (gridState { GridStat.reset with valid := true, gver := 1 }).doStampAll qrTables

/-- The 16 data bytes of vector V1. -/
def v1Data : List Byte :=
  [0x40, 0x56, 0x86, 0x56, 0xC6, 0xC6, 0xF0, 0xEC, 0x11, 0xEC, 0x11, 0xEC, 0x11, 0xEC, 0x11, 0xEC]

/-- The 10 ECC bytes of vector V1. -/
def v1Ecc : List Byte := [0x16, 0x4F, 0xDF, 0xD4, 0x8C, 0x11, 0xD1, 0x5C, 0x2F, 0xB7]

/-- The state while Busy with `w` and the given moves to come. -/
def busyWith (w : Word) (moves : List Move) : State :=
  { State.reset with cmd := w, engine := .busy w, inputs := moves }

/-- The reset state with the given moves to come. -/
def idleWith (moves : List Move) : State := { State.reset with inputs := moves }

/-! ### Well-formedness: the three checks of R162 -/

theorem test_wf_refuses_reserved_bits : ({ op := 0x01, k := 0, rsv := 1 } : CmdFields).wf = false := by
  decide
theorem test_wf_refuses_unlisted_opcode : ({ op := 0x06, k := 0, rsv := 0 } : CmdFields).wf = false := by
  decide
theorem test_wf_refuses_stray_mask : ({ op := 0x01, k := 1, rsv := 0 } : CmdFields).wf = false := by
  decide
theorem test_wf_accepts_mask : ({ op := 0x21, k := 7, rsv := 0 } : CmdFields).wf = true := by decide

/-! ### Decoding: each constructor's word, written out from R160 and R165 -/

theorem test_decode_control : decode 0x00000000 = .ok .nop ∧ decode 0x00000030 = .ok .encode := by
  decide
theorem test_decode_field : decode 0x00000001 = .ok .gfmul ∧ decode 0x00000002 = .ok .polyeval ∧
    decode 0x00000003 = .ok .rsgen ∧ decode 0x00000004 = .ok .rsrem ∧
    decode 0x00000005 = .ok .syndrome := by decide
theorem test_decode_capacity : decode 0x00000008 = .ok .capq ∧ decode 0x00000009 = .ok .interleave := by
  decide
theorem test_decode_matrix : decode 0x00000010 = .ok .gridinit ∧ decode 0x00000011 = .ok .stampFinder ∧
    decode 0x00000012 = .ok .stampSep ∧ decode 0x00000013 = .ok .stampTiming ∧
    decode 0x00000014 = .ok .stampAlign ∧ decode 0x00000015 = .ok .reserveFmt ∧
    decode 0x00000016 = .ok .reserveVer ∧ decode 0x00000017 = .ok .stampAll := by decide
theorem test_decode_placement : decode 0x00000018 = .ok .place := by decide
theorem test_decode_mask : decode 0x00000320 = .ok (.maskapply 3) ∧
    decode 0x00000721 = .ok (.score 7) ∧ decode 0x00000022 = .ok .select := by decide
theorem test_decode_information : decode 0x00000423 = .ok (.fmtenc 4) ∧
    decode 0x00000124 = .ok (.fmtwrite 1) ∧ decode 0x00000025 = .ok .verenc ∧
    decode 0x00000026 = .ok .verwrite ∧ decode 0x00000027 = .ok .finalize := by decide
theorem test_decode_refuses : decode 0x00000006 = .error .reservedOpcode ∧
    decode 0x00000101 = .error .strayMaskIndex ∧ decode 0x00000800 = .error .reservedBits ∧
    decode 0x00000120 = .ok (.maskapply 1) := by decide
theorem test_table_word : decodeTableWord 32 0x721 = some (.score 7) ∧ decodeTableWord 32 6 = none := by
  decide

/-! ### Field and Reed-Solomon -/

/-- R201's example. -/
theorem test_gfmul : result (exec .gfmul (operands 0x53 0xCA 0)) (·.result) = some 0x8F := by decide
theorem test_gfmul_range : statusAfter .gfmul (operands 256 0 0) = some 0x16 := by decide
/-- R206's example. -/
theorem test_polyeval : result (exec .polyeval (withData (operands 0 3 2) [1, 2, 3])) (·.result) =
    some 3 := by decide
theorem test_polyeval_wrap : statusAfter .polyeval (operands 0xFFFFFFFF 1 0) = some 0x16 := by decide
/-- R210's example, in decimal. -/
theorem test_rsgen : result (exec .rsgen (operands 7 0 0)) (fun t => (t.readBytes .gpoly 0 7, t.glen)) =
    some (some [127, 122, 154, 164, 11, 68, 117], 7) := by decide +kernel
/-- Vector V16. -/
theorem test_rsgen_range : statusAfter .rsgen (operands 256 0 0) = some 0x16 := by decide
/-- R215's example: the ECC bytes of vector V1. -/
theorem test_rsrem : result (exec .rsgen (withData (operands 10 16 0) v1Data)) (fun t =>
    result (exec .rsrem { t with opa := 0 }) (·.readBytes .rembuf 0 10)) = some (some (some v1Ecc)) := by
  decide +kernel
theorem test_rsrem_sequence : statusAfter .rsrem State.reset = some 0x66 := by decide
/-- R219's example: `S_10` of the block of vector V1 is 0xAC, those before it are 0. -/
theorem test_syndrome : result (exec .syndrome (withData (operands 0 26 11) (v1Data ++ v1Ecc)))
    (·.readBytes .rembuf 0 11) = some (some [0, 0, 0, 0, 0, 0, 0, 0, 0, 0, 0xAC]) := by decide +kernel
theorem test_syndrome_unwritten :
    exec .syndrome (operands 0 1 1) = .fault .unwrittenBufferByte := by rfl

/-! ### Capacity and interleaving -/

/-- R251's example. -/
theorem test_capq : result (exec .capq (configured 1 .m)) (fun t => (t.readReg .capblk,
    t.readReg .capecc, t.readReg .capraw, t.readReg .capdata, t.readReg .capshort)) =
    some (1, 10, 208, 16, 0x001A0001) := by decide +kernel
theorem test_capq_range : statusAfter .capq State.reset = some 0x16 := by decide
/-- R262's example. -/
theorem test_interleave : result (exec .interleave (withData { configured 1 .m with dlen := 16 } v1Data))
    (fun t => (t.readBytes .cwbuf 0 26, t.cwlen)) = some (some (v1Data ++ v1Ecc), 26) := by
  decide +kernel
theorem test_interleave_capacity :
    statusAfter .interleave { configured 1 .m with dlen := 0x80000000 } = some 0x26 := by decide +kernel

/-- R7: under another table the same command gives that table's counts. -/
theorem test_capq_parameter : result
    (execUnder .capq (configured 1 .m) { qrTables with capacity := fun _ _ => (2, 3) })
    (fun t => (t.capblk, t.capecc, t.capdata)) = some (2, 3, 20) := by decide +kernel

/-! ### Symbol matrix -/

/-- R301's example. -/
theorem test_gridinit : result (exec .gridinit (configured 1 .m)) (·.readReg .gridstat) =
    some 0x00010001 := by decide
theorem test_gridinit_range : statusAfter .gridinit (configured 41 .m) = some 0x16 := by decide
/-- R306's example: `(3, 3)` Dark, `(2, 1)` and `(1, 1)` Light, at the top left. -/
theorem test_stamp_finder : result
    (exec .stampFinder (gridState { GridStat.reset with valid := true, gver := 1 }))
    (fun t => [t.grid.read 3 3, t.grid.read 2 1, t.grid.read 1 1, t.grid.read 20 0]) =
    some [⟨.dark, true⟩, ⟨.light, true⟩, ⟨.light, true⟩, ⟨.dark, true⟩] := by decide +kernel
theorem test_stamp_finder_sequence : statusAfter .stampFinder State.reset = some 0x66 := by decide
/-- R309's example. -/
theorem test_stamp_sep : result (exec .stampSep (gridState { stampedStat 1 with sSep := false }))
    (fun t => [t.grid.read 7 7, t.grid.read 13 0, t.grid.read 20 7, t.grid.read 0 13]) =
    some [⟨.light, true⟩, ⟨.light, true⟩, ⟨.light, true⟩, ⟨.light, true⟩] := by decide +kernel
theorem test_stamp_sep_sequence :
    statusAfter .stampSep (gridState { stampedStat 1 with sFinder := false }) = some 0x66 := by decide
/-- R311: Dark at even indices; a module already stamped stays (R302). -/
theorem test_stamp_timing : result (exec .stampTiming
    { gridState (stampedStat 1) with grid := Grid.write [] 6 1 ⟨.dark, true⟩ })
    (fun t => [t.grid.read 6 8, t.grid.read 9 6, t.grid.read 6 1]) =
    some [⟨.dark, true⟩, ⟨.light, true⟩, ⟨.dark, true⟩] := by decide +kernel
theorem test_stamp_timing_sequence :
    statusAfter .stampTiming (gridState { stampedStat 1 with sSep := false }) = some 0x66 := by decide
/-- R315's example, version 2. -/
theorem test_stamp_align : result (exec .stampAlign (gridState (stampedStat 2)))
    (fun t => [t.grid.read 16 16, t.grid.read 17 17, t.grid.read 18 18, t.grid.read 15 16]) =
    some [⟨.dark, true⟩, ⟨.light, true⟩, ⟨.dark, true⟩, ⟨.unset, false⟩] := by decide +kernel
/-- R315: version 1 stamps nothing and still sets S_ALIGN. -/
theorem test_stamp_align_none : result (exec .stampAlign (gridState { stampedStat 1 with sAlign := false }))
    (fun t => (t.grid, t.gridstat.sAlign)) = some ([], true) := by decide +kernel
/-- R319's example: the dark module of version 1. -/
theorem test_reserve_fmt : result (exec .reserveFmt (gridState (stampedStat 1)))
    (fun t => [t.grid.read 13 8, t.grid.read 8 0, t.grid.read 20 8, t.grid.read 8 6]) =
    some [⟨.dark, true⟩, ⟨.reservedFormat, true⟩, ⟨.reservedFormat, true⟩, ⟨.unset, false⟩] := by
  decide +kernel
theorem test_reserve_fmt_sequence :
    statusAfter .reserveFmt (gridState { stampedStat 1 with sAlign := false }) = some 0x66 := by decide
/-- R322's example, version 7. -/
theorem test_reserve_ver : result (exec .reserveVer (gridState (stampedStat 7)))
    (fun t => [t.grid.read 0 34, t.grid.read 5 36, t.grid.read 36 5, t.grid.read 0 33]) =
    some [⟨.reservedVersion, true⟩, ⟨.reservedVersion, true⟩, ⟨.reservedVersion, true⟩,
      ⟨.unset, false⟩] := by decide +kernel
theorem test_reserve_ver_none : result (exec .reserveVer (gridState (stampedStat 6))) (·.grid) =
    some [] := by decide +kernel
/-- R319's example: row 8 of version 1 reads `ffffff#ff????ffffffff`. -/
theorem test_stamp_all : result (exec .stampAll (gridState { GridStat.reset with valid := true, gver := 1 }))
    (fun t => ((List.range 21).map fun c => (t.grid.read 8 c).tag)) =
    some (List.replicate 6 .reservedFormat ++ [.dark, .reservedFormat, .reservedFormat] ++
      List.replicate 4 .unset ++ List.replicate 8 .reservedFormat) := by decide +kernel
theorem test_stamp_all_sequence : statusAfter .stampAll State.reset = some 0x66 := by decide

/-! ### Placement -/

/-- R354: the last seven Unset modules of version 2 stand in this order in the visit order. -/
theorem test_visit_order : ((visitOrder 25).filter fun p =>
    decide (p.2 < 2) && decide (13 ≤ p.1) && decide (p.1 ≤ 16) && !decide (p = (13, 1))) =
    [(13, 0), (14, 1), (14, 0), (15, 1), (15, 0), (16, 1), (16, 0)] := by decide +kernel
set_option maxRecDepth 100000 in
/-- R354's example: the codewords of vector V1; the first two and the last four modules visited. -/
theorem test_place : result (exec .place
    { stampedState.writeBytes .cwbuf 0 (v1Data ++ v1Ecc) with cwlen := 26 })
    (fun t => [(20, 20), (20, 19), (11, 1), (11, 0), (12, 1), (12, 0)].map fun p =>
      (t.grid.read p.1 p.2).tag) = some [.light, .dark, .light, .dark, .dark, .dark] := by
  decide +kernel
/-- Vector V16: CWLEN = 25 on a stamped version 1 grid. -/
theorem test_place_invariant :
    statusAfter .place { gridState (stampedStat 1) with cwlen := 25 } = some 0x46 := by decide +kernel

/-! ### Masking, penalty, format and version -/

/-- R381's example: mask 0 flips `(20, 20)` and leaves `(20, 19)`. -/
theorem test_maskapply : (fun g : Grid => [(g.read 20 20).tag, (g.read 20 19).tag])
    ([(20, 20), (20, 19)].foldl (maskModule qrTables 0)
      (Grid.write (Grid.write [] 20 20 ⟨.light, false⟩) 20 19 ⟨.dark, false⟩)) = [.dark, .dark] := by
  decide +kernel
/-- Vector V16. -/
theorem test_maskapply_sequence : statusAfter (.maskapply 0) (gridState (stampedStat 1)) = some 0x66 := by
  decide
/-- R385: the line of a pattern with margins on both sides adds 80 (vector V12). -/
theorem test_score_finder : finderLikePenalty qrTables
    [false, false, false, false, true, false, true, true, true, false, true, false, false, false, false] =
    80 := by decide +kernel
/-- Vector V12: the all-Light matrix. -/
theorem test_score_light : penalty qrTables (List.replicate 21 (List.replicate 21 false)) = 2088 := by
  decide +kernel
/-- R388's example, and a tie. -/
theorem test_select : leastIndex [288, 390, 290, 440, 540, 370, 397, 359] = 0 ∧
    leastIndex [5, 3, 9, 3, 3, 7, 8, 4] = 1 := by decide
theorem test_select_sequence : statusAfter .select (gridState (stampedStat 1)) = some 0x66 := by decide
/-- R393's examples. -/
theorem test_fmtenc : result (exec (.fmtenc 4) (configured 0 .l)) (·.fmtbits) = some 0x662F ∧
    result (exec (.fmtenc 7) (configured 63 .h)) (·.fmtbits) = some 0x083B := by decide +kernel
/-- R395's example: column 8, rows 0..5 and 7, of version 1, level M, mask 0. -/
theorem test_fmtwrite : result
    (exec (.fmtwrite 0) { gridState (stampedStat 1) with config := { version := 1, ecl := .m } })
    (fun t => [0, 1, 2, 3, 4, 5, 7].map fun r => (t.grid.read r 8).tag) =
    some [.light, .dark, .light, .light, .dark, .light, .light] := by decide +kernel
theorem test_fmtwrite_sequence :
    statusAfter (.fmtwrite 0) (gridState { stampedStat 1 with sFmt := false }) = some 0x66 := by decide
/-- R398's examples. -/
theorem test_verenc : result (exec .verenc (configured 7 .l)) (·.verbits) = some 0x07C94 ∧
    result (exec .verenc (configured 40 .l)) (·.verbits) = some 0x28C69 := by decide +kernel
/-- R400's example. -/
theorem test_verwrite : result (exec .verwrite (gridState (stampedStat 7)))
    (fun t => [(0, 34), (0, 35), (0, 36), (1, 34), (1, 35), (1, 36), (36, 0), (35, 1)].map fun p =>
      (t.grid.read p.1 p.2).tag) =
    some [.light, .light, .dark, .light, .dark, .light, .dark, .dark] := by decide +kernel
theorem test_verwrite_none : result (exec .verwrite { gridState (stampedStat 6) with verbits := 1 })
    (fun t => (t.grid, t.verbits)) = some ([], 0) := by decide +kernel
/-- R402: FMTBITS, VERBITS and the flags for MASKSEL = 0, level M, version 1. -/
theorem test_finalize : result (exec .finalize { gridState
    { stampedStat 1 with placed := true, sel := true } with config := { version := 1, ecl := .m } })
    (fun t => (t.fmtbits, t.verbits, t.readReg .gridstat)) = some (0x5412, 0, 0x000102FF) := by
  decide +kernel
theorem test_finalize_twice : statusAfter .finalize
    (gridState { stampedStat 1 with placed := true, sel := true, final := true }) = some 0x66 := by decide

/-! ### Control, errors and the bus -/

/-- R450's example: STATUS 0x56 before, 0x02 after. -/
theorem test_nop : statusAfter .nop
    { State.reset with status := { done := true, err := true, errcode := 5, overrun := false } } =
    some 0x02 := by decide
theorem test_encode_capacity :
    statusAfter .encode { configured 1 .m with dlen := 17 } = some 0x26 := by decide +kernel
theorem test_encode_unwritten :
    result (exec .encode { configured 1 .h with dlen := 9 }) (fun _ => ()) = none := by decide +kernel
/-- Vector V16: a reserved opcode. -/
theorem test_illegal : result (step (busyWith 0x06 [])) State.statusWord = some 0x56 := by decide
/-- R123's example. -/
theorem test_little_endian : result (step (idleWith [.write 4 0x01000 0x56865640]))
    (·.readBytes .dbuf 0 4) = some (some [0x40, 0x56, 0x86, 0x56]) := by decide
/-- Vector V16: CONFIG's reserved bits read as zero. -/
theorem test_config_reserved : result (step (idleWith [.write 4 0x00C 0xFFFFFFFF]))
    (·.readReg .config) = some 0x33F := by decide
/-- R64, R58: the halves of CAPSHORT, and ECL 3 for H, as a host read shows them. -/
theorem test_register_reads : result (step { idleWith [.read 4 0x040] with
      capshort := { numShort := 1, shortLen := 0x1A } }) (·.rdata) = some (some 0x001A0001) ∧
    result (step { configured 40 .h with inputs := [.read 4 0x00C] }) (·.rdata) =
      some (some 0x328) := by decide
/-- Program P6: a write while Busy is ignored and sets OVERRUN. -/
theorem test_overrun : result (step { busyWith 1 [.write 4 0x010 5] with opa := 2 })
    (fun t => (t.opa, t.statusWord)) = some (2, 0x101) := by decide
theorem test_clear_overrun : result (step { idleWith [.write 4 0x008 0x100] with
    status := { done := true, err := false, errcode := 0, overrun := true } }) State.statusWord =
    some 0x002 := by decide
theorem test_bus_error : step (idleWith [.read 2 0x000]) = .fault .busError ∧
    step (idleWith [.write 4 0x070 0]) = .fault .busError ∧
    step (idleWith [.read 4 0x20000]) = .fault .busError := by
  refine ⟨?_, ?_, ?_⟩ <;> rfl
/-- R127: inside the symbol the function bit and the code, outside it 0. -/
theorem test_grid_window : result (step { gridState (stampedStat 1) with
      inputs := [.read 4 0x10014], grid := Grid.write (Grid.write [] 0 20 ⟨.dark, true⟩) 0 21 ⟨.dark, true⟩ })
    (·.rdata) = some (some 0x00000082) := by decide
/-- The host's first instruction after reset. -/
theorem test_fetch_word : result (step (State.reset.withFetchWord 32 0x00000423)) (·.fmtbits) =
    some 0x662F := by decide +kernel

/-! ### Witnesses: states and operands that meet the hypotheses of each obligation -/

theorem witness_DecodeOfEncodeIsTheCommand : (Instr.score 7).wf = true := by decide
theorem witness_StepPerformsTheLatchedCommand : ((busyWith 0x721 []).engine = .busy 0x721 ∧
    decode 0x721 = .ok (.score 7) ∧ (busyWith 0x721 []).inputs = []) ∧
    (busyWith 0x721 [.engine]).inputs = .engine :: [] ∧
    (busyWith 0x721 [.wait]).inputs = .wait :: [] := by decide
theorem witness_IllegalWordRaisesIllegal :
    ((busyWith 0x800 [.engine]).engine = .busy 0x800 ∧
      (busyWith 0x800 [.engine]).inputs = .engine :: [] ∧ (0x800 : Word).extractLsb' 11 21 ≠ 0) ∧
    ((busyWith 0x800 []).engine = .busy 0x800 ∧ (busyWith 0x800 []).inputs = []) ∧
    ((busyWith 0x800 [.wait]).engine = .busy 0x800 ∧ (busyWith 0x800 [.wait]).inputs = .wait :: []) ∧
    (0x06 : Word).extractLsb' 0 8 ∉ plainOpcodes ++ maskOpcodes ∧
    (0x101 : Word).extractLsb' 8 3 ≠ 0 ∧ (0x101 : Word).extractLsb' 0 8 ∉ maskOpcodes := by decide
theorem witness_CompletionIsAtomic :
    (∃ t, exec .nop State.reset = .next t ∧ t.status.err = false) ∧
    ∃ t, exec .capq State.reset = .next t ∧ t.status.err = true := ⟨⟨_, rfl, rfl⟩, _, rfl, rfl⟩
theorem witness_CommandsRaiseOnlyListedCodes :
    ∃ t, exec .rsrem State.reset = .next t ∧ t.status.err = true := ⟨_, rfl, rfl⟩
theorem witness_CommandsStopOnlyOnUnwrittenBytes :
    exec .syndrome (operands 0 1 1) = .fault .unwrittenBufferByte := by rfl
theorem witness_CommandsWriteOnlyTheirOutputs :
    ∃ t, exec .gfmul (operands 255 255 0) = .next t := ⟨_, rfl⟩
theorem witness_BusErrorExactlyOnBadAccess :
    (idleWith [.write 4 0x0006C 1]).inputs = .write 4 0x0006C 1 :: [] ∧
    (idleWith [.write 4 0x00070 1]).inputs = .write 4 0x00070 1 :: [] ∧
    (busyWith 1 [.read 2 0x1FFFC]).inputs = .read 2 0x1FFFC :: [] ∧
    (idleWith [.read 4 0x20000]).inputs = .read 4 0x20000 :: [] := by decide
theorem witness_BusyHostAccesses : ((busyWith 1 [.write 4 0x1FFFC 5]).engine = .busy 1 ∧
    0x1FFFC % 4 = 0 ∧ Mapped 0x1FFFC ∧
    (busyWith 1 [.write 4 0x1FFFC 5]).inputs = .write 4 0x1FFFC 5 :: []) ∧
    (Mapped 0x008 ∧ (busyWith 1 [.read 4 0x008]).inputs = .read 4 0x008 :: []) ∧
    Mapped 0x0006C ∧ (busyWith 1 [.read 4 0x0006C]).inputs = .read 4 0x0006C :: [] := by
  unfold Mapped; decide
/-- A word of REMBUF of which two bytes are written. -/
def halfWritten : State := { idleWith [.read 4 0x031FC] with mem := [(0x31FC, 1), (0x31FF, 4)] }

theorem witness_BufferWordsAreLittleEndian :
    ((idleWith [.write 4 0x02FFC 5]).engine = .idle ∧
      (idleWith [.write 4 0x02FFC 5]).inputs = .write 4 0x02FFC 5 :: []) ∧
    (halfWritten.engine = .idle ∧ halfWritten.inputs = .read 4 0x031FC :: [] ∧
      halfWritten.mem.read (0x031FC + 3) = some 4 ∧ halfWritten.mem.read (0x031FC + 1) = none) ∧
    ∀ j, j < 4 → ({ halfWritten with mem :=
      [(0x31FC, 1), (0x31FD, 2), (0x31FE, 3), (0x31FF, 4)] }).mem.read (0x031FC + j) ≠ none := by
  decide
theorem witness_ReadsHaveNoSideEffect :
    ∃ t, step (idleWith [.read 4 0x03000]) = .next t := ⟨_, rfl⟩
theorem witness_GridWindowShowsModules : (idleWith [.read 4 0x1FFFC]).engine = .idle ∧
    255 < 256 ∧ 252 < 256 ∧ 252 % 4 = 0 ∧
    (idleWith [.read 4 0x1FFFC]).inputs = .read 4 (0x10000 + 256 * 255 + 252) :: [] := by decide
theorem witness_IdleRegisterWrites :
    (∀ a ∈ [0x004, 0x008, 0x00C, 0x010, 0x014, 0x018, 0x020, 0x024, 0x000, 0x06C, 0x03000, 0x1FFFC],
      (idleWith [.write 4 a 0xFFFFFFFF]).engine = .idle ∧
      (idleWith [.write 4 a 0xFFFFFFFF]).inputs = .write 4 a 0xFFFFFFFF :: []) ∧
    Mapped 0x000 ∧ Mapped 0x06C ∧ Mapped 0x03000 ∧ Mapped 0x1FFFC := by unfold Mapped; decide
theorem witness_RegisterReadsShowTheirFields :
    (idleWith [.read 4 0x06C]).engine = .idle ∧ (idleWith [.read 4 0x06C]).inputs = .read 4 0x06C :: [] ∧
    0x06C = 0x050 + 4 * (7 : Fin 8).val ∧ 0x06C % 4 = 0 ∧ 0x06C < 0x00070 ∧
    ∃ x, step (idleWith [.read 4 0x06C]) = .next { idleWith [] with rdata := some x } :=
  ⟨rfl, rfl, rfl, rfl, by decide, _, rfl⟩
theorem witness_ResetState : (busyWith 1 [.reset]).inputs = .reset :: [] := by decide
theorem witness_FieldLaws : (0xFF : Byte) ≠ 0 ∧ gfmul 0xFF (alphaPow (255 - 175)) = 1 := by
  decide +kernel
theorem witness_GfmulResult : ((operands 255 255 0).opa.toNat ≤ 255 ∧
    (operands 255 255 0).opb.toNat ≤ 255) ∧ 255 < (operands 256 0 0).opa.toNat ∧
    255 < (operands 0 256 0).opb.toNat := by decide

/-- Three data bytes at the end of DBUF. -/
def endData : State := (operands 4093 3 255).writeBytes .dbuf 4093 [1, 2, 3]

theorem endData_holds : Holds endData .dbuf 4093 [1, 2, 3] := by unfold Holds; decide +kernel
theorem witness_PolyevalResult :
    (Holds endData .dbuf endData.opa.toNat [1, 2, 3] ∧ endData.opb.toNat = 3 ∧
      endData.opc.toNat ≤ 255 ∧ endData.opa.toNat + endData.opb.toNat ≤ 4096) ∧
    255 < (operands 0 0 256).opc.toNat ∧ 4096 < (operands 4096 1 0).opa.toNat + 1 ∧
    ∃ j, j < (operands 4095 1 0).opb.toNat ∧ (operands 4095 1 0).readByte .dbuf (4095 + j) = none :=
  ⟨⟨endData_holds, by decide, by decide, by decide⟩, by decide, by decide, 0, by decide, by decide⟩
theorem witness_RsgenResult : (1 ≤ (operands 255 0 0).opa.toNat ∧ (operands 255 0 0).opa.toNat ≤ 255) ∧
    (operands 0 0 0).opa.toNat < 1 ∧ 255 < (operands 256 0 0).opa.toNat := by decide
theorem witness_DivisorHasItsRoots : 1 ≤ 255 ∧ 255 ≤ 255 ∧ 254 < 255 := by decide

/-- `endData` with a divisor of degree 1. -/
def divisorData : State := { endData.writeBytes .gpoly 0 [1] with glen := 1 }

theorem witness_RsremResult :
    (Holds divisorData .dbuf divisorData.opa.toNat [1, 2, 3] ∧ divisorData.opb.toNat = 3 ∧
      Holds divisorData .gpoly 0 [1] ∧ divisorData.glen.toNat = 1 ∧
      divisorData.opa.toNat + divisorData.opb.toNat ≤ 4096) ∧
    endData.glen.toNat = 0 ∧ 4096 < { divisorData with opb := 4 }.opa.toNat + 4 ∧
    ({ divisorData with opa := 4092 }.readByte .dbuf 4092 = none ∧ (4092 : Word).toNat + 3 ≤ 4096) := by
  unfold Holds; decide +kernel
theorem witness_RemainderMakesACodeword : 1 ≤ 255 ∧ 255 ≤ 255 ∧ 254 < 255 := by decide
theorem witness_SyndromeResult :
    (Holds endData .dbuf endData.opa.toNat [1, 2, 3] ∧ endData.opb.toNat = 3 ∧
      1 ≤ endData.opc.toNat ∧ endData.opc.toNat ≤ 255 ∧
      endData.opa.toNat + endData.opb.toNat ≤ 4096) ∧
    (operands 0 0 0).opc.toNat < 1 ∧ 255 < (operands 0 0 256).opc.toNat ∧
    4096 < (operands 4096 1 1).opa.toNat + (operands 4096 1 1).opb.toNat ∧
    (operands 4095 1 1).readByte .dbuf 4095 = none :=
  ⟨⟨endData_holds, by decide, by decide, by decide, by decide⟩, by decide, by decide, by decide, by decide⟩
theorem witness_CapqResult : (1 ≤ (configured 40 .h).config.version.toNat ∧
    (configured 40 .h).config.version.toNat ≤ 40) ∧
    (configured 0 .h).config.version.toNat < 1 ∧ 40 < (configured 41 .h).config.version.toNat := by
  decide

/-- Version 1, level H, with its nine data bytes. -/
def smallInput : State := withData { configured 1 .h with dlen := 9 } (List.replicate 9 7)

theorem witness_InterleaveResult :
    (smallInput.config.version.toNat = 1 ∧ smallInput.dlen.toNat = dataCapacity qrTables 1 .h ∧
      Holds smallInput .dbuf 0 (List.replicate 9 7)) ∧
    (configured 41 .h).config.version.toNat = 41 ∧
    dataCapacity qrTables 1 .h < { smallInput with dlen := 10 }.dlen.toNat ∧
    { smallInput with dlen := 8 }.dlen.toNat < dataCapacity qrTables 1 .h ∧
    { configured 1 .h with dlen := 9 }.readByte .dbuf 8 = none := by
  unfold Holds; decide +kernel
theorem witness_CapacityLaws : 1 ≤ 40 ∧ 40 ≤ 40 ∧
    ((List.replicate 1276 7 : List Byte)).length = dataCapacity qrTables 40 .h := by decide +kernel
/-- Version 5, level Q: four blocks, two of them short, 15 data and 18 ECC codewords in a short one. -/
theorem witness_InterleaveOrder : ((List.replicate 62 7 : List Byte)).length = dataCapacity qrTables 5 .q ∧
    numBlocks qrTables 5 .q = 4 ∧ eccPerBlock qrTables 5 .q = 18 ∧ 4 - rawDataModules 5 / 8 % 4 = 2 ∧
    rawDataModules 5 / 8 / 4 - 18 = 15 ∧ 14 < 15 ∧ 2 ≤ 3 ∧ 17 < 18 := by decide +kernel
theorem witness_GridinitResult : (1 ≤ (configured 40 .l).config.version.toNat ∧
    (configured 40 .l).config.version.toNat ≤ 40) ∧ (configured 0 .l).config.version.toNat < 1 ∧
    40 < (configured 41 .l).config.version.toNat := by decide
theorem witness_StampFinderResult : (stampedStat 40).valid = true ∧ GridStat.reset.valid = false := by
  decide
theorem witness_StampSepResult : ((stampedStat 40).valid && (stampedStat 40).sFinder) = true ∧
    (GridStat.reset.valid && GridStat.reset.sFinder) = false := by decide
theorem witness_StampTimingResult : ((stampedStat 40).valid && (stampedStat 40).sFinder &&
    (stampedStat 40).sSep) = true ∧ GridStat.reset.valid = false := by decide
/-- Version 2: the one centre `(18, 18)`, the corner of its pattern, and a module outside it. -/
theorem witness_StampAlignResult : (gridState (stampedStat 2)).gridstat.sTiming = true ∧
    1 ≤ (gridState (stampedStat 2)).gridstat.gver.toNat ∧
    (18 ∈ alignmentTable 2 ∧ (18, 18) ∉ [(6, 6), (6, 25 - 7), (25 - 7, 6)] ∧ distance 16 18 ≤ 2) ∧
    (∀ a ∈ alignmentTable 2, ∀ b ∈ alignmentTable 2,
      (a, b) ∉ [(6, 6), (6, 25 - 7), (25 - 7, 6)] → 2 < distance 15 a ∨ 2 < distance 15 b) ∧
    (gridState { stampedStat 2 with sTiming := false }).gridstat.sTiming = false := by decide +kernel
theorem witness_ReserveFmtResult : ((stampedStat 40).valid && (stampedStat 40).sFinder &&
    (stampedStat 40).sSep && (stampedStat 40).sTiming && (stampedStat 40).sAlign) = true ∧
    GridStat.reset.valid = false := by decide
theorem witness_ReserveVerResult : (stampedStat 40).valid = true ∧ (stampedStat 40).sFmt = true ∧
    GridStat.reset.valid = false := by decide
theorem witness_StampAllIsTheSixStamps : (gridState (stampedStat 40)).gridstat.valid = true ∧
    State.reset.gridstat.valid = false := by decide
theorem witness_ModuleCountLaw : 1 ≤ (configured 40 .l).config.version.toNat ∧
    (configured 40 .l).config.version.toNat ≤ 40 ∧
    ∃ t, sequence [.gridinit, .stampAll] (configured 40 .l) = .next t := ⟨by decide, by decide, _, rfl⟩
theorem witness_VisitOrderIsTheZigzag : 63 ≤ 63 ∧ 269 = 4 * 63 + 17 ∧ 133 < (269 - 1) / 2 ∧
    268 < 269 ∧ 1 < 2 := by decide

/-- A stamped version 1 grid with 26 codewords in CWBUF. -/
def placeInput : State :=
  { stampedState.writeBytes .cwbuf 0 (List.replicate 26 7) with cwlen := 26 }

set_option maxRecDepth 100000 in
theorem placeInput_count : unsetCount 21 placeInput.grid = rawDataModules 1 := by decide +kernel
theorem placeInput_holds : Holds placeInput .cwbuf 0 (List.replicate 26 7) := by
  unfold Holds; decide +kernel
theorem witness_PlaceResult :
    (placeInput.gridstat.allStamped = true ∧ placeInput.gridstat.placed = false ∧
      placeInput.cwlen.toNat = rawDataModules 1 / 8 ∧ unsetCount 21 placeInput.grid = rawDataModules 1 ∧
      Holds placeInput .cwbuf 0 (List.replicate 26 7)) ∧
    State.reset.gridstat.allStamped = false ∧ placedState.gridstat.placed = true ∧
    { stampedState with cwlen := 25 }.cwlen.toNat ≠ rawDataModules 1 / 8 ∧
    stampedState.readByte .cwbuf 25 = none :=
  ⟨⟨by decide +kernel, by decide +kernel, by decide +kernel, placeInput_count, placeInput_holds⟩,
    by decide, by decide, by decide +kernel, by decide +kernel⟩
theorem witness_MaskapplyResult : (placedState.gridstat.valid = true ∧ placedState.gridstat.placed = true) ∧
    State.reset.gridstat.valid = false ∧ (gridState (stampedStat 1)).gridstat.placed = false := by decide

/-- A placed version 1 grid of Light data modules. -/
def lightState : State :=
  { placedState with grid := (List.range 21).map fun r =>
      (r, (List.range 21).map fun c => (c, (⟨.light, false⟩ : GridCell))) }

theorem witness_MaskingTwiceRestores : lightState.gridstat.valid = true ∧
    lightState.gridstat.placed = true ∧ ∀ r c, r < lightState.gridSide → c < lightState.gridSide →
      (lightState.grid.read r c).fn = false →
      (lightState.grid.read r c).tag = .light ∨ (lightState.grid.read r c).tag = .dark := by
  have h : ∀ r, r < 21 → ∀ c, c < 21 → (lightState.grid.read r c).tag = .light := by decide +kernel
  exact ⟨rfl, rfl, fun r c hr hc _ => .inl (h r hr c hc)⟩
theorem witness_CandidateModules : 1 ≤ 7 ∧ 7 ≤ 40 ∧ 45 = 4 * 7 + 17 ∧ 14 < 15 ∧ 17 < 18 ∧
    (∀ i, i < 15 → (20, 20) ≠ f1 i ∧ (20, 20) ≠ f2 45 i) ∧
    ∀ i, i < 18 → (20, 20) ≠ va 45 i ∧ (20, 20) ≠ vb 45 i := by decide +kernel
theorem witness_PenaltyTotalFits : 1 ≤ 177 ∧ 177 ≤ 177 ∧
    1 = sumTo 1 (fun _ => sumTo 1 fun _ => if true then 1 else 0) := by decide
theorem witness_ScoreResult : 21 = 4 * placedState.gridstat.gver.toNat + 17 ∧
    placedState.gridstat.valid = true ∧ placedState.gridstat.placed = true ∧
    (gridState (stampedStat 1)).gridstat.placed = false := by decide
theorem witness_SelectResult : 21 = 4 * placedState.gridstat.gver.toNat + 17 ∧
    (∃ p : Nat → Nat, ∀ k, p k = penalty qrTables (matrixOf 21 fun r c => decide
      (((candidate qrTables placedState.gridstat.gver.toNat placedState.config.ecl k placedState.grid).read
        r c).tag = .dark))) ∧
    placedState.gridstat.valid = true ∧ placedState.gridstat.placed = true ∧
    (gridState (stampedStat 1)).gridstat.placed = false := ⟨rfl, ⟨_, fun _ => rfl⟩, rfl, rfl, rfl⟩
theorem witness_NopAndEncodersResult : (configured 1 .l).config.version.toNat = 1 ∧
    (configured 40 .l).config.version.toNat = 40 ∧ (configured 0 .l).config.version.toNat = 0 ∧
    (configured 41 .l).config.version.toNat = 41 := by decide
/-- Two different words, and a word three bits from its own. -/
theorem witness_InformationCodeLaws : 7 ≤ 7 ∧ 40 ≤ 40 ∧ 7 ≠ 40 ∧ (EccLevel.l, (0 : BitVec 3)) ≠ (EccLevel.l, 1) ∧
    hamming (formatWord .h 7 ^^^ 7) (formatWord .h 7) ≤ 3 := by decide +kernel
theorem witness_FmtwriteResult : ((gridState (stampedStat 1)).gridstat.valid = true ∧
    (gridState (stampedStat 1)).gridstat.sFmt = true) ∧ State.reset.gridstat.sFmt = false := by decide
theorem witness_VerwriteResult : (stampedStat 7).sVer = true ∧ (stampedStat 7).gver.toNat = 7 ∧
    (stampedStat 6).gver.toNat < 7 ∧ State.reset.gridstat.sVer = false := by decide

/-- A placed version 1 grid with a mask selected. -/
def selectedState : State := gridState { stampedStat 1 with placed := true, sel := true }

theorem witness_FinalizeResult : selectedState.gridstat.valid = true ∧
    selectedState.gridstat.placed = true ∧ selectedState.gridstat.sel = true ∧
    selectedState.gridstat.final = false ∧ placedState.gridstat.sel = false := by decide
theorem witness_FinalizedSymbolHasLeastPenalty : placedState.gridstat.valid = true ∧
    placedState.gridstat.placed = true ∧ placedState.gridstat.final = false := by decide
theorem witness_EncodeIsItsStages : State.reset.status.err = false ∧
    ∃ t, exec .encode State.reset = .next t ∧ t.status.err = true := ⟨rfl, _, rfl, rfl⟩
theorem witness_EncodeResult : smallInput.config.version.toNat = 1 ∧
    smallInput.dlen.toNat = dataCapacity qrTables 1 smallInput.config.ecl ∧
    Holds smallInput .dbuf 0 (List.replicate 9 7) ∧
    (configured 41 .h).config.version.toNat = 41 ∧
    dataCapacity qrTables 1 .h < { smallInput with dlen := 10 }.dlen.toNat ∧
    { smallInput with dlen := 8 }.dlen.toNat < dataCapacity qrTables 1 .h ∧
    { configured 1 .h with dlen := 9 }.readByte .dbuf 8 = none := by
  unfold Holds; decide +kernel

/-- A host that is about to issue NOP. -/
def issuing : State := idleWith [.write 4 0x004 0, .engine]

theorem issuing_blockInv : issuing.BlockInv := by
  constructor <;> simp [issuing, idleWith, State.reset, Status.reset, GridStat.reset, Memory.wf,
    Store.rising, Memory.read, Store.find, Grid.wf, Grid.read, Grid.row, GridRow.read]
theorem issuing_stageInv : issuing.StageInv := by
  constructor <;> simp [issuing, idleWith, State.reset, Status.reset, GridStat.reset,
    Store.find, Grid.read, Grid.row, GridRow.read, GridCell.blank]
theorem witness_EveryStepKeepsBlockInv : issuing.BlockInv ∧ ∃ t, step issuing = .next t :=
  ⟨issuing_blockInv, _, rfl⟩
theorem witness_EveryStepKeepsStageInv :
    issuing.BlockInv ∧ issuing.StageInv ∧ ∃ t, step issuing = .next t :=
  ⟨issuing_blockInv, issuing_stageInv, _, rfl⟩

end Sys2Proof.Tests
end

section
/-! PROOFS of the family "state". A command as a body: what every body answers, and when. -/

namespace Sys2Proof.Machine

/-! ### Bodies: the cases of each combinator -/

@[simp] theorem raiseError_ne_ok (c : ErrorCode) (t : State) : raiseError c ≠ .ok t := by
  simp [raiseError]

@[simp] theorem raiseError_inj {c e : ErrorCode} : raiseError c = raiseError e ↔ c = e := by
  simp [raiseError]

@[simp] theorem ok_ne_raiseError (t : State) (c : ErrorCode) : (.ok t : Body) ≠ raiseError c := by
  simp [raiseError]

theorem ok_eq_ok {t u : State} : (.ok u : Body) = .ok t ↔ t = u := by
  simp [eq_comm]

/-- A check that raises an error lets the body answer only where it does not hold. -/
theorem guard_eq_ok {p : Prop} [Decidable p] {c : ErrorCode} {b : Body} {t : State} :
    (if p then raiseError c else b) = .ok t ↔ ¬ p ∧ b = .ok t := by
  by_cases hp : p <;> simp [hp]

theorem guard_eq_raiseError {p : Prop} [Decidable p] {c e : ErrorCode} {b : Body} :
    (if p then raiseError c else b) = raiseError e ↔ (p ∧ c = e) ∨ (¬ p ∧ b = raiseError e) := by
  by_cases hp : p <;> simp [hp]

/-- The same check the other way about: the body answers only where the condition holds. -/
theorem require_eq_ok {p : Prop} [Decidable p] {c : ErrorCode} {u t : State} :
    (if p then .ok u else raiseError c) = Except.ok t ↔ p ∧ t = u := by
  by_cases hp : p <;> simp [hp, eq_comm (a := u)]

theorem require_eq_raiseError {p : Prop} [Decidable p] {c e : ErrorCode} {u : State} :
    (if p then .ok u else raiseError c) = raiseError e ↔ ¬ p ∧ c = e := by
  by_cases hp : p <;> simp [hp]

theorem withBytes_eq_ok {r : Option (List Byte)} {k : List Byte → Body} {t : State} :
    withBytes r k = .ok t ↔ ∃ xs, r = some xs ∧ k xs = .ok t := by
  cases r <;> simp

theorem withBytes_eq_raiseError {r : Option (List Byte)} {k : List Byte → Body} {e : ErrorCode} :
    withBytes r k = raiseError e ↔ ∃ xs, r = some xs ∧ k xs = raiseError e := by
  cases r <;> simp [raiseError]

theorem staged_eq_ok {ready : Bool} {t u : State} : staged ready t = .ok u ↔ ready = true ∧ u = t :=
  require_eq_ok

theorem staged_eq_raiseError {ready : Bool} {t : State} {e : ErrorCode} :
    staged ready t = raiseError e ↔ ready = false ∧ e = .sequence := by
  cases ready <;> simp [eq_comm]

theorem bind_eq_ok {b : Body} {f : State → Body} {u : State} :
    b.bind f = .ok u ↔ ∃ t, b = .ok t ∧ f t = .ok u := by
  cases b <;> simp [Except.bind]

theorem bind_eq_raiseError {b : Body} {f : State → Body} {e : ErrorCode} :
    b.bind f = raiseError e ↔ b = raiseError e ∨ ∃ t, b = .ok t ∧ f t = raiseError e := by
  cases b <;> simp [Except.bind, raiseError]

/-! ### When a body answers a state, and which -/

theorem gfmulBody_eq_ok {s t : State} : gfmulBody s = .ok t ↔
    ¬ (255 < s.opaNat ∨ 255 < s.opbNat) ∧
    t = { s with result := zextByte (gfmul (s.opa.setWidth 8) (s.opb.setWidth 8)) } := by
  simp only [gfmulBody, guard_eq_ok, ok_eq_ok]

theorem polyevalBody_eq_ok {s t : State} : polyevalBody s = .ok t ↔
    ¬ 255 < s.opcNat ∧ ¬ leavesDbuf s.opaNat s.opbNat = true ∧
    ∃ b, s.readBytes .dbuf s.opaNat s.opbNat = some b ∧
      t = { s with result := zextByte (polyEval b (s.opc.setWidth 8)) } := by
  simp only [polyevalBody, guard_eq_ok, withBytes_eq_ok, ok_eq_ok]

theorem rsgenBody_eq_ok {s t : State} : rsgenBody s = .ok t ↔
    ¬ badDegree s.opaNat = true ∧
    t = { s.writeBytes .gpoly 0 (divisor s.opaNat) with glen := BitVec.ofNat 9 s.opaNat } := by
  simp only [rsgenBody, guard_eq_ok, ok_eq_ok]

theorem rsremBody_eq_ok {s t : State} : rsremBody s = .ok t ↔
    s.glenNat ≠ 0 ∧ ¬ leavesDbuf s.opaNat s.opbNat = true ∧
    ∃ b, s.readBytes .dbuf s.opaNat s.opbNat = some b ∧
    ∃ p, s.readBytes .gpoly 0 s.glenNat = some p ∧
      t = s.writeBytes .rembuf 0 (remainder b p) := by
  simp only [rsremBody, guard_eq_ok, withBytes_eq_ok, ok_eq_ok, ne_eq]

theorem syndromeBody_eq_ok {s t : State} : syndromeBody s = .ok t ↔
    ¬ badDegree s.opcNat = true ∧ ¬ leavesDbuf s.opaNat s.opbNat = true ∧
    ∃ b, s.readBytes .dbuf s.opaNat s.opbNat = some b ∧
      t = s.writeBytes .rembuf 0 (syndromes b s.opcNat) := by
  simp only [syndromeBody, guard_eq_ok, withBytes_eq_ok, ok_eq_ok]

theorem capqBody_eq_ok {T : QrTables} {s t : State} : capqBody T s = .ok t ↔
    legalVersion s.versionNat = true ∧ t = s.withCapacity T s.versionNat s.config.ecl :=
  require_eq_ok

theorem interleaveBody_eq_ok {T : QrTables} {s t : State} : interleaveBody T s = .ok t ↔
    legalVersion s.versionNat = true ∧
    ¬ dataCapacity T s.versionNat s.config.ecl < s.dlenNat ∧
    ¬ s.dlenNat < dataCapacity T s.versionNat s.config.ecl ∧
    ∃ data, s.readBytes .dbuf 0 s.dlenNat = some data ∧
      t = { (s.writeBytes .cwbuf 0 (interleaved T s.versionNat s.config.ecl data)).withCapacity T
          s.versionNat s.config.ecl with
        cwlen := BitVec.ofNat 32 (rawCodewords s.versionNat) } := by
  simp only [interleaveBody, guard_eq_ok, withBytes_eq_ok, ok_eq_ok,
    Bool.not_eq_true', Bool.not_eq_false]

theorem gridinitBody_eq_ok {s t : State} : gridinitBody s = .ok t ↔
    legalVersion s.versionNat = true ∧
    t = { s with grid := [], gridstat := GridStat.initial s.config.version } :=
  require_eq_ok

theorem placeBody_eq_ok {s t : State} : placeBody s = .ok t ↔
    s.gridstat.allStamped = true ∧ ¬ s.gridstat.placed = true ∧
    s.cwlenNat = rawDataModules s.gverNat / 8 ∧
    unsetCount s.gridSide s.grid = rawDataModules s.gverNat ∧
    ∃ bytes, s.readBytes .cwbuf 0 s.cwlenNat = some bytes ∧
      t = { s with
        grid := placeBits (visitOrder s.gridSide) (streamBits bytes) s.grid
        gridstat := { s.gridstat with placed := true } } := by
  simp only [placeBody, guard_eq_ok, withBytes_eq_ok, ok_eq_ok,
    Bool.not_eq_true', Bool.not_eq_false, ne_eq, not_not]

theorem verencBody_eq_ok {s t : State} : verencBody s = .ok t ↔
    legalVersion s.versionNat = true ∧ t = { s with verbits := versionWord s.versionNat } :=
  require_eq_ok

/-- The stages of ENCODE that a body which answers has gone through (R451). -/
theorem encodeBody_eq_ok {T : QrTables} {s t : State} : encodeBody T s = .ok t ↔
    ∃ s₁, interleaveBody T s = .ok s₁ ∧ ∃ s₂, gridinitBody s₁ = .ok s₂ ∧
    ∃ s₃, stampAllBody T s₂ = .ok s₃ ∧ ∃ s₄, placeBody s₃ = .ok s₄ ∧
    ∃ s₅, selectBody T s₄ = .ok s₅ ∧ finalizeBody T s₅ = .ok t := by
  simp only [encodeBody, bind_eq_ok]

/-! ### Commands -/

/-- The body of each command: what it does before completion (R61). -/
def commandBody : Instr → State → Body
  | .nop => .ok
  | .gfmul => gfmulBody
  | .polyeval => polyevalBody
  | .rsgen => rsgenBody
  | .rsrem => rsremBody
  | .syndrome => syndromeBody
  | .capq => capqBody qrTables
  | .interleave => interleaveBody qrTables
  | .gridinit => gridinitBody
  | .stampFinder => stampFinderBody
  | .stampSep => stampSepBody
  | .stampTiming => stampTimingBody
  | .stampAlign => stampAlignBody qrTables
  | .reserveFmt => reserveFmtBody
  | .reserveVer => reserveVerBody
  | .stampAll => stampAllBody qrTables
  | .place => placeBody
  | .maskapply k => maskapplyBody qrTables k
  | .score k => scoreBody qrTables k
  | .select => selectBody qrTables
  | .fmtenc k => fun s => .ok { s with fmtbits := formatWord s.config.ecl k.toNat }
  | .fmtwrite k => fmtwriteBody k
  | .verenc => verencBody
  | .verwrite => verwriteBody
  | .finalize => finalizeBody qrTables
  | .encode => encodeBody qrTables

/-- Every command is its body, then completion. -/
theorem exec_eq_finish (i : Instr) (s : State) : exec i s = finish s (commandBody i s) := by
  cases i <;> rfl

/-- A command that answers completes its body's state, or records the error its body raised (R61). -/
theorem exec_eq_next {i : Instr} {s t : State} (h : exec i s = .next t) :
    (∃ u, commandBody i s = .ok u ∧ t = u.complete) ∨
      ∃ c, commandBody i s = raiseError c ∧ t = s.raise c :=
  finish_eq_next (exec_eq_finish i s ▸ h)

end Sys2Proof.Machine
end

section
/-! PROOFS of the family "state". What no command changes: the parts of the state that are not among its
outputs. -/

namespace Sys2Proof.Machine

/-! ### Runs of bytes stay in their buffer -/

/-- The windows of two buffers do not meet (R121). -/
theorem Buf.windows_disjoint {b b' : Buf} (h : b' ≠ b) :
    b'.base + b'.size ≤ b.base ∨ b.base + b.size ≤ b'.base := by
  cases b <;> cases b' <;> simp [Buf.base, Buf.size, streamBufSize] at h ⊢

/-- A run of writes inside a buffer leaves every other buffer as it was. -/
theorem State.readByte_writeBytes_of_ne (s : State) {b b' : Buf} {off : Nat} {xs : List Byte}
    (hne : b' ≠ b) (hfit : off + xs.length ≤ b.size) (j : Nat) :
    (s.writeBytes b off xs).readByte b' j = s.readByte b' j := by
  unfold State.readByte
  split
  case isFalse => rfl
  case isTrue hj =>
    have hout : ¬ (b.base + off ≤ b'.base + j ∧ b'.base + j < b.base + off + xs.length) := by
      have := Buf.windows_disjoint hne
      omega
    rw [State.writeBytes_mem, Memory.read_writeRun, dif_neg hout]

/-- A written byte stays written (R68). -/
theorem State.readByte_writeBytes_ne_none {s : State} {b' : Buf} {j : Nat}
    (h : s.readByte b' j ≠ none) (b : Buf) (off : Nat) (xs : List Byte) :
    (s.writeBytes b off xs).readByte b' j ≠ none := by
  unfold State.readByte at h ⊢
  split
  case isFalse hj => simp [hj] at h
  case isTrue hj =>
    rw [if_pos hj] at h
    rw [State.writeBytes_mem, Memory.read_writeRun]
    split
    · simp
    · exact h

/-- The bytes of a run are written after it (R68). -/
theorem State.readByte_writeBytes_self (s : State) {b : Buf} {xs : List Byte} {j : Nat}
    (hj : j < xs.length) (hfit : xs.length ≤ b.size) :
    (s.writeBytes b 0 xs).readByte b j = some xs[j] := by
  have hin : b.base + 0 ≤ b.base + j ∧ b.base + j < b.base + 0 + xs.length := by omega
  rw [State.readByte, if_pos (by omega), State.writeBytes_mem, Memory.read_writeRun, dif_pos hin]
  simp

/-- A run of bytes that could be read ends inside its buffer. -/
theorem State.readBytes_fits {s : State} {b : Buf} {off len : Nat} {xs : List Byte}
    (h : s.readBytes b off len = some xs) (hlen : 0 < len) : off + len ≤ b.size := by
  obtain ⟨hl, hread⟩ := State.readBytes_eq_some.mp h
  have hlast := hread (len - 1) (by omega)
  by_contra hout
  rw [State.readByte, if_neg (by omega)] at hlast
  simp at hlast

/-! ### How many bytes the commands write -/

theorem divisorPass_length (root : Byte) (r : List Byte) (h : 0 < r.length) :
    (divisorPass root r).length = r.length := by
  simp [divisorPass]; omega

theorem divisorLoop_length (k : Nat) (root : Byte) (r : List Byte) (h : 0 < r.length) :
    (divisorLoop k root r).length = r.length := by
  induction k generalizing root r with
  | zero => rfl
  | succ k ih =>
    have hpass := divisorPass_length root r h
    rw [divisorLoop, ih _ _ (by omega), hpass]

/-- The divisor of degree `d` has `d` lower coefficients (R209). -/
theorem divisor_length {d : Nat} (h : 0 < d) : (divisor d).length = d := by
  rw [divisor, divisorLoop_length _ _ _ (by simp)]
  simp; omega

theorem foldl_remainderStep_length {p r : List Byte} (hr : r.length = p.length) (b : List Byte) :
    (b.foldl (remainderStep p) r).length = p.length := by
  induction b generalizing r with
  | nil => exact hr
  | cons x b ih =>
    have hstep : (remainderStep p r x).length = p.length := by
      simp [remainderStep]
      omega
    exact ih hstep

/-- A remainder has as many coefficients as the divisor (R214). -/
theorem remainder_length (b p : List Byte) : (remainder b p).length = p.length :=
  foldl_remainderStep_length (by simp) b

@[simp] theorem syndromes_length (b : List Byte) (cnt : Nat) : (syndromes b cnt).length = cnt := by
  simp [syndromes]

theorem interleaveRound_length_le (T : QrTables) (v : Nat) (e : EccLevel) (blks : List (List Byte))
    (i : Nat) : (interleaveRound T v e blks i).length ≤ numBlocks T v e := by
  unfold interleaveRound
  generalize numBlocks T v e = n
  induction n with
  | zero => simp
  | succ n ih =>
    rw [List.range_succ, List.flatMap_append, List.length_append]
    refine Nat.add_le_add ih ?_
    rw [List.flatMap_singleton]
    split <;> simp

theorem interleaved_length_le (T : QrTables) (v : Nat) (e : EccLevel) (data : List Byte) :
    (interleaved T v e data).length ≤ (shortBlockLen T v e + 1) * numBlocks T v e := by
  unfold interleaved interleaveBlocks
  generalize shortBlockLen T v e + 1 = m
  induction m with
  | zero => simp
  | succ m ih =>
    rw [List.range_succ, List.flatMap_append, List.length_append, Nat.succ_mul,
      List.flatMap_singleton]
    exact Nat.add_le_add ih (interleaveRound_length_le T v e _ m)

theorem legalVersion_iff {v : Nat} : legalVersion v = true ↔ 1 ≤ v ∧ v ≤ 40 := by
  simp [legalVersion]

/-- In every row of R252 the codewords and one round more fit CWBUF (R67). -/
theorem rawCodewords_add_numBlocks_le (e : EccLevel) :
    ∀ v ≤ 40, rawCodewords v + numBlocks qrTables v e ≤ Buf.cwbuf.size := by
  cases e <;> decide

/-- The longest stream the tables allow fits CWBUF (R67, R252). -/
theorem interleaved_fits {v : Nat} (hv : legalVersion v = true) (e : EccLevel) (data : List Byte) :
    (interleaved qrTables v e data).length ≤ Buf.cwbuf.size := by
  have hlen := interleaved_length_le qrTables v e data
  have hblocks : numBlocks qrTables v e * shortBlockLen qrTables v e ≤ rawCodewords v :=
    Nat.mul_div_le _ _
  have htable := rawCodewords_add_numBlocks_le e v (legalVersion_iff.mp hv).2
  rw [Nat.succ_mul, Nat.mul_comm] at hlen
  omega

/-! ### Frames -/

/-- The parts of the state that the rules of the commands tell apart (R56 to R67). -/
inductive Part where
  /-- what no command writes: CMD, CONFIG, the operands, DLEN, OVERRUN and the model's own fields -/
  | control
  | buf (b : Buf)
  | cwlen
  | glen
  | result
  | capacity
  | masksel
  | pen
  | fmtbits
  | verbits
  | grid
  | gridstat

/-- `t` has the part as `s` has it. -/
def Part.Same (s t : State) : Part → Prop
  | .control =>
    (t.cmd = s.cmd ∧ t.config = s.config ∧ t.opa = s.opa ∧ t.opb = s.opb ∧ t.opc = s.opc ∧
      t.dlen = s.dlen ∧ t.status.overrun = s.status.overrun) ∧
    (t.inputs = s.inputs ∧ t.rdata = s.rdata ∧ t.draws = s.draws)
  | .buf b => ∀ j, t.readByte b j = s.readByte b j
  | .cwlen => t.cwlen = s.cwlen
  | .glen => t.glen = s.glen
  | .result => t.result = s.result
  | .capacity => t.capblk = s.capblk ∧ t.capecc = s.capecc ∧ t.capraw = s.capraw ∧
      t.capdata = s.capdata ∧ t.capshort = s.capshort
  | .masksel => t.masksel = s.masksel
  | .pen => t.pen = s.pen
  | .fmtbits => t.fmtbits = s.fmtbits
  | .verbits => t.verbits = s.verbits
  | .grid => t.grid = s.grid
  | .gridstat => t.gridstat = s.gridstat

/-- From `s` to `t` nothing changes but the parts listed. -/
def Frame (ps : List Part) (s t : State) : Prop := ∀ p, p ∉ ps → p.Same s t

theorem Part.Same.trans {p : Part} {s t u : State} (h₁ : p.Same s t) (h₂ : p.Same t u) :
    p.Same s u := by
  cases p <;> simp_all [Part.Same]

theorem Frame.trans {ps : List Part} {s t u : State} (h₁ : Frame ps s t) (h₂ : Frame ps t u) :
    Frame ps s u := fun p hp => (h₁ p hp).trans (h₂ p hp)

theorem Frame.mono {ps qs : List Part} {s t : State} (h : Frame ps s t) (hsub : ps ⊆ qs) :
    Frame qs s t := fun p hp => h p fun hmem => hp (hsub hmem)

/-- The parts a command may change (R62 to R67). -/
def outputs : Instr → List Part
  | .nop => []
  | .gfmul | .polyeval => [.result]
  | .rsgen => [.buf .gpoly, .glen]
  | .rsrem | .syndrome => [.buf .rembuf]
  | .capq => [.capacity]
  | .interleave => [.buf .cwbuf, .cwlen, .capacity]
  | .gridinit | .stampFinder | .stampSep | .stampTiming | .stampAlign | .reserveFmt | .reserveVer
  | .stampAll | .place | .maskapply _ => [.grid, .gridstat]
  | .score _ => [.pen]
  | .select => [.pen, .masksel, .gridstat]
  | .fmtenc _ => [.fmtbits]
  | .fmtwrite _ => [.grid, .fmtbits]
  | .verenc => [.verbits]
  | .verwrite => [.grid, .verbits]
  | .finalize => [.grid, .gridstat, .fmtbits, .verbits]
  | .encode => [.buf .cwbuf, .cwlen, .capacity, .grid, .gridstat, .pen, .masksel, .fmtbits, .verbits]

/-! ### What the named updates leave as it was -/

theorem Frame.refl (ps : List Part) (s : State) : Frame ps s s := by
  intro p _
  cases p <;> simp [Part.Same]

theorem frame_writeBytes (s : State) {b : Buf} {off : Nat} {xs : List Byte}
    (hfit : off + xs.length ≤ b.size) : Frame [.buf b] s (s.writeBytes b off xs) := by
  intro p hp
  cases p with
  | buf b' =>
    have hne : b' ≠ b := by simpa using hp
    exact State.readByte_writeBytes_of_ne s hne hfit
  | _ => simp [Part.Same]

theorem frame_glen (s : State) (x : BitVec 9) : Frame [.glen] s { s with glen := x } := by
  intro p hp
  cases p <;> simp [Part.Same, State.readByte] at hp ⊢

theorem frame_cwlen (s : State) (x : Word) : Frame [.cwlen] s { s with cwlen := x } := by
  intro p hp
  cases p <;> simp [Part.Same, State.readByte] at hp ⊢

theorem frame_result (s : State) (x : Word) : Frame [.result] s { s with result := x } := by
  intro p hp
  cases p <;> simp [Part.Same, State.readByte] at hp ⊢

theorem frame_withCapacity (s : State) (T : QrTables) (v : Nat) (e : EccLevel) :
    Frame [.capacity] s (s.withCapacity T v e) := by
  intro p hp
  cases p <;> simp [Part.Same, State.readByte] at hp ⊢

theorem frame_grid (s : State) (g : Grid) (gs : GridStat) :
    Frame [.grid, .gridstat] s { s with grid := g, gridstat := gs } := by
  intro p hp
  cases p <;> simp [Part.Same, State.readByte] at hp ⊢

theorem frame_setPen (s : State) (k : BitVec 3) (w : Word) : Frame [.pen] s (s.setPen k w) := by
  intro p hp
  cases p <;> simp [Part.Same, State.readByte] at hp ⊢

theorem frame_withSelection (s : State) (ps : List Nat) :
    Frame [.pen, .masksel, .gridstat] s (s.withSelection ps) := by
  intro p hp
  cases p <;> simp [Part.Same, State.readByte] at hp ⊢

theorem frame_fmtbits (s : State) (x : BitVec 15) : Frame [.fmtbits] s { s with fmtbits := x } := by
  intro p hp
  cases p <;> simp [Part.Same, State.readByte] at hp ⊢

theorem frame_verbits (s : State) (x : BitVec 18) : Frame [.verbits] s { s with verbits := x } := by
  intro p hp
  cases p <;> simp [Part.Same, State.readByte] at hp ⊢

theorem frame_doFmtwrite (s : State) (k : BitVec 3) :
    Frame [.grid, .fmtbits] s (s.doFmtwrite k) := by
  intro p hp
  cases p <;> simp [Part.Same, State.readByte] at hp ⊢

theorem frame_doVerwrite (s : State) : Frame [.grid, .verbits] s s.doVerwrite := by
  intro p hp
  cases p <;> simp [Part.Same, State.readByte] at hp ⊢

theorem frame_doStampAll (s : State) (T : QrTables) :
    Frame [.grid, .gridstat] s (s.doStampAll T) := by
  intro p hp
  cases p <;> simp [Part.Same, State.readByte] at hp ⊢

theorem frame_complete (s : State) : Frame [] s s.complete := by
  intro p _
  cases p <;> simp [Part.Same, State.readByte]

theorem frame_raise (s : State) (c : ErrorCode) : Frame [] s (s.raise c) := by
  intro p _
  cases p <;> simp [Part.Same, State.readByte]

/-! ### What the bodies and the commands leave as it was -/

theorem frame_rsgenBody {s t : State} (h : rsgenBody s = .ok t) :
    Frame [.buf .gpoly, .glen] s t := by
  obtain ⟨hdeg, rfl⟩ := rsgenBody_eq_ok.mp h
  simp only [badDegree, Bool.or_eq_true, decide_eq_true_eq] at hdeg
  have hfit : 0 + (divisor s.opaNat).length ≤ Buf.gpoly.size := by
    rw [divisor_length (by omega), Buf.size]
    omega
  exact ((frame_writeBytes s hfit).mono (by simp)).trans ((frame_glen _ _).mono (by simp))

theorem frame_rsremBody {s t : State} (h : rsremBody s = .ok t) : Frame [.buf .rembuf] s t := by
  obtain ⟨hglen, -, b, -, p, hp, rfl⟩ := rsremBody_eq_ok.mp h
  have hfit : 0 + s.glenNat ≤ 256 := State.readBytes_fits hp (by omega)
  refine frame_writeBytes s ?_
  rw [remainder_length, (State.readBytes_eq_some.mp hp).1]
  exact hfit

theorem frame_syndromeBody {s t : State} (h : syndromeBody s = .ok t) :
    Frame [.buf .rembuf] s t := by
  obtain ⟨hcnt, -, b, -, rfl⟩ := syndromeBody_eq_ok.mp h
  simp only [badDegree, Bool.or_eq_true, decide_eq_true_eq] at hcnt
  refine frame_writeBytes s ?_
  rw [syndromes_length, Buf.size]
  omega

theorem frame_interleaveBody {s t : State} (h : interleaveBody qrTables s = .ok t) :
    Frame [.buf .cwbuf, .cwlen, .capacity] s t := by
  obtain ⟨hv, -, -, data, -, rfl⟩ := interleaveBody_eq_ok.mp h
  have hfit : 0 + (interleaved qrTables s.versionNat s.config.ecl data).length ≤ Buf.cwbuf.size := by
    have := interleaved_fits hv s.config.ecl data
    omega
  have hwrite := (frame_writeBytes s hfit).mono (qs := [.buf .cwbuf, .cwlen, .capacity]) (by simp)
  exact (hwrite.trans ((frame_withCapacity _ _ _ _).mono (by simp))).trans
    ((frame_cwlen _ _).mono (by simp))

theorem frame_finalizeBody {T : QrTables} {s t : State} (h : finalizeBody T s = .ok t) :
    Frame [.grid, .gridstat, .fmtbits, .verbits] s t := by
  obtain ⟨-, rfl⟩ := staged_eq_ok.mp h
  have hmask : Frame [.grid, .gridstat, .fmtbits, .verbits] s (s.doMask T s.masksel) :=
    (frame_grid s _ s.gridstat).mono (by simp)
  exact ((hmask.trans ((frame_doFmtwrite _ _).mono (by simp))).trans
    ((frame_doVerwrite _).mono (by simp))).trans
    ((frame_grid _ (State.grid _) _).mono (by simp))

theorem frame_gridinitBody {s t : State} (h : gridinitBody s = .ok t) :
    Frame [.grid, .gridstat] s t :=
  (gridinitBody_eq_ok.mp h).2 ▸ frame_grid s _ _

theorem frame_placeBody {s t : State} (h : placeBody s = .ok t) : Frame [.grid, .gridstat] s t := by
  obtain ⟨-, -, -, -, bytes, -, rfl⟩ := placeBody_eq_ok.mp h
  exact frame_grid s _ _

theorem frame_stampAllBody {T : QrTables} {s t : State} (h : stampAllBody T s = .ok t) :
    Frame [.grid, .gridstat] s t := by
  obtain ⟨-, rfl⟩ := staged_eq_ok.mp h
  exact frame_doStampAll s T

theorem frame_selectBody {T : QrTables} {s t : State} (h : selectBody T s = .ok t) :
    Frame [.pen, .masksel, .gridstat] s t :=
  (staged_eq_ok.mp h).2 ▸ frame_withSelection s _

theorem frame_encodeBody {s t : State} (h : encodeBody qrTables s = .ok t) :
    Frame (outputs .encode) s t := by
  obtain ⟨s₁, h₁, s₂, h₂, s₃, h₃, s₄, h₄, s₅, h₅, h₆⟩ := encodeBody_eq_ok.mp h
  have hcodewords := (frame_interleaveBody h₁).mono (qs := outputs .encode) (by simp [outputs])
  have hinit := (frame_gridinitBody h₂).mono (qs := outputs .encode) (by simp [outputs])
  have hstamps := (frame_stampAllBody h₃).mono (qs := outputs .encode) (by simp [outputs])
  have hplace := (frame_placeBody h₄).mono (qs := outputs .encode) (by simp [outputs])
  have hselect := (frame_selectBody h₅).mono (qs := outputs .encode) (by simp [outputs])
  have hfinal := (frame_finalizeBody h₆).mono (qs := outputs .encode) (by simp [outputs])
  exact ((((hcodewords.trans hinit).trans hstamps).trans hplace).trans hselect).trans hfinal

/-- A body that answers changes nothing but the command's outputs. -/
theorem frame_commandBody {i : Instr} {s t : State} (h : commandBody i s = .ok t) :
    Frame (outputs i) s t := by
  cases i with
  | nop =>
    obtain rfl := ok_eq_ok.mp h
    exact Frame.refl _ t
  | gfmul => exact (gfmulBody_eq_ok.mp h).2 ▸ frame_result s _
  | polyeval =>
    obtain ⟨-, -, b, -, rfl⟩ := polyevalBody_eq_ok.mp h
    exact frame_result s _
  | rsgen => exact frame_rsgenBody h
  | rsrem => exact frame_rsremBody h
  | syndrome => exact frame_syndromeBody h
  | capq => exact (capqBody_eq_ok.mp h).2 ▸ frame_withCapacity s _ _ _
  | interleave => exact frame_interleaveBody h
  | gridinit => exact frame_gridinitBody h
  | stampAll => exact frame_stampAllBody h
  | place => exact frame_placeBody h
  | score k => exact (staged_eq_ok.mp h).2 ▸ frame_setPen s _ _
  | select => exact frame_selectBody h
  | fmtenc k => exact ok_eq_ok.mp h ▸ frame_fmtbits s _
  | fmtwrite k => exact (staged_eq_ok.mp h).2 ▸ frame_doFmtwrite s k
  | verenc => exact (verencBody_eq_ok.mp h).2 ▸ frame_verbits s _
  | verwrite => exact (staged_eq_ok.mp h).2 ▸ frame_doVerwrite s
  | finalize => exact frame_finalizeBody h
  | encode => exact frame_encodeBody h
  | stampFinder | stampSep | stampTiming | stampAlign | reserveFmt | reserveVer
  | maskapply =>
    obtain ⟨-, rfl⟩ := staged_eq_ok.mp h
    exact frame_grid s _ _

/-- A command that answers changes nothing but its outputs, STATUS and the engine. -/
theorem frame_exec {i : Instr} {s t : State} (h : exec i s = .next t) : Frame (outputs i) s t := by
  obtain ⟨u, hbody, rfl⟩ | ⟨c, -, rfl⟩ := exec_eq_next h
  · exact (frame_commandBody hbody).trans ((frame_complete u).mono (by simp))
  · exact (frame_raise s c).mono (by simp)

end Sys2Proof.Machine
end

section
/-! PROOFS of the family "state": O4, O6 and O9. -/

namespace Sys2Proof.Proofs

open Sys2Proof.Machine Sys2Proof.Claims

/-! ### Which commands have a part among their outputs -/

variable {i : Instr}

theorem control_not_mem_outputs (i : Instr) : .control ∉ outputs i := by
  cases i <;> simp [outputs]

theorem dbuf_not_mem_outputs (i : Instr) : .buf .dbuf ∉ outputs i := by
  cases i <;> simp [outputs]

theorem of_cwlen_mem_outputs (h : .cwlen ∈ outputs i) : i ∈ [.interleave, .encode] := by
  cases i <;> simp [outputs] at h ⊢

theorem of_cwbuf_mem_outputs (h : .buf .cwbuf ∈ outputs i) : i ∈ [.interleave, .encode] := by
  cases i <;> simp [outputs] at h ⊢

theorem of_glen_mem_outputs (h : .glen ∈ outputs i) : i = .rsgen := by
  cases i <;> simp [outputs] at h ⊢

theorem of_gpoly_mem_outputs (h : .buf .gpoly ∈ outputs i) : i = .rsgen := by
  cases i <;> simp [outputs] at h ⊢

theorem of_rembuf_mem_outputs (h : .buf .rembuf ∈ outputs i) : i ∈ [.rsrem, .syndrome] := by
  cases i <;> simp [outputs] at h ⊢

theorem of_result_mem_outputs (h : .result ∈ outputs i) : i ∈ [.gfmul, .polyeval] := by
  cases i <;> simp [outputs] at h ⊢

theorem of_capacity_mem_outputs (h : .capacity ∈ outputs i) :
    i ∈ [.capq, .interleave, .encode] := by
  cases i <;> simp [outputs] at h ⊢

theorem of_masksel_mem_outputs (h : .masksel ∈ outputs i) : i ∈ [.select, .encode] := by
  cases i <;> simp [outputs] at h ⊢

theorem of_pen_mem_outputs (h : .pen ∈ outputs i) :
    i ∈ [.select, .encode] ∨ ∃ k, i = .score k := by
  cases i <;> simp [outputs] at h ⊢

theorem of_fmtbits_mem_outputs (h : .fmtbits ∈ outputs i) :
    i ∈ [.finalize, .encode] ∨ ∃ k, i = .fmtenc k ∨ i = .fmtwrite k := by
  cases i <;> simp [outputs] at h ⊢

theorem of_verbits_mem_outputs (h : .verbits ∈ outputs i) :
    i ∈ [.verenc, .verwrite, .finalize, .encode] := by
  cases i <;> simp [outputs] at h ⊢

/-- The commands that are not grid commands leave the grid alone. -/
theorem grid_not_mem_outputs
    (h : i ∈ [.nop, .gfmul, .polyeval, .rsgen, .rsrem, .syndrome, .capq, .interleave, .select,
      .verenc] ∨ ∃ k, i = .score k ∨ i = .fmtenc k) : .grid ∉ outputs i := by
  cases i <;> simp [outputs] at h ⊢

theorem gridstat_not_mem_outputs
    (h : i ∈ [.nop, .gfmul, .polyeval, .rsgen, .rsrem, .syndrome, .capq, .interleave, .select,
      .verenc] ∨ ∃ k, i = .score k ∨ i = .fmtenc k) (hselect : i ≠ .select) :
    .gridstat ∉ outputs i := by
  cases i <;> simp [outputs] at h hselect ⊢

/-- Settles O4: each of the engine's turns is `engineTurn`, which performs a word that decodes. -/
theorem stepPerformsTheLatchedCommand : Obligations.StepPerformsTheLatchedCommand := by
  unfold Obligations.StepPerformsTheLatchedCommand
  intro s w i hbusy hdecode
  refine ⟨fun h => ?_, fun rest h => ?_, fun rest h => ?_⟩
  · rw [step_of_noMove h, engineTurn_of_decode hbusy hdecode]
  · rw [step_of_move h, moveTurn]
    exact engineTurn_of_decode hbusy hdecode
  · have hpoll : s.isBusy = true := by rw [State.isBusy, hbusy]
    rw [step_of_move h, moveTurn, pollTurn, if_pos hpoll, engineTurn_of_decode hbusy hdecode]

theorem overrun_of_exec {s t : State} (h : exec i s = .next t) :
    t.status.overrun = s.status.overrun := by
  obtain ⟨⟨-, -, -, -, -, -, hoverrun⟩, -⟩ := frame_exec h .control (control_not_mem_outputs i)
  exact hoverrun

/-- Settles O6: a command's body is completed or its error recorded, in one place. -/
theorem completionIsAtomic : Obligations.CompletionIsAtomic := by
  unfold Obligations.CompletionIsAtomic
  intro i s t h
  have hoverrun := overrun_of_exec h
  obtain ⟨u, -, rfl⟩ | ⟨c, -, rfl⟩ := exec_eq_next h
  · exact ⟨rfl, rfl, hoverrun, fun _ => rfl, fun herr => by simp at herr⟩
  · exact ⟨rfl, rfl, hoverrun, fun herr => by simp at herr, fun _ => rfl⟩

/-- Settles O9: each part is none of the command's outputs wherever the statement says so. -/
theorem commandsWriteOnlyTheirOutputs : Obligations.CommandsWriteOnlyTheirOutputs := by
  unfold Obligations.CommandsWriteOnlyTheirOutputs
  intro i s t h
  have same : ∀ p, p ∉ outputs i → p.Same s t := frame_exec h
  obtain ⟨hregs, hmodel⟩ := same .control (control_not_mem_outputs i)
  refine ⟨hregs, hmodel, same (.buf .dbuf) (dbuf_not_mem_outputs i),
    fun hi => ⟨same .cwlen (mt of_cwlen_mem_outputs hi),
      same (.buf .cwbuf) (mt of_cwbuf_mem_outputs hi)⟩,
    fun hi => ⟨same .glen (mt of_glen_mem_outputs hi),
      same (.buf .gpoly) (mt of_gpoly_mem_outputs hi)⟩,
    fun hi => same (.buf .rembuf) (mt of_rembuf_mem_outputs hi),
    fun hi => same .result (mt of_result_mem_outputs hi),
    fun hi => same .capacity (mt of_capacity_mem_outputs hi),
    fun hi => ⟨same .masksel (mt of_masksel_mem_outputs hi),
      fun hscore => same .pen fun hpen => ?_⟩,
    fun hi hfmt => same .fmtbits fun hbits => ?_,
    fun hi => same .verbits (mt of_verbits_mem_outputs hi),
    fun hi => ⟨same .grid (grid_not_mem_outputs hi),
      fun hselect => same .gridstat (gridstat_not_mem_outputs hi hselect)⟩⟩
  · obtain hmem | ⟨k, hk⟩ := of_pen_mem_outputs hpen
    · exact hi hmem
    · exact hscore k hk
  · obtain hmem | ⟨k, hk | hk⟩ := of_fmtbits_mem_outputs hbits
    · exact hi hmem
    · exact (hfmt k).1 hk
    · exact (hfmt k).2 hk

end Sys2Proof.Proofs
end

section
/-! PROOFS of the family "state". The block invariant: which fields it reads, and what keeps it. -/

namespace Sys2Proof.Machine

/-! ### The grid stays inside the symbol -/

/-- Every listed module lies in the square of side `n` (R69). -/
def Grid.Within (n : Nat) (g : Grid) : Prop :=
  ∀ r c, g.read r c ≠ GridCell.blank → r < n ∧ c < n

theorem Grid.within_setTag {n : Nat} {g : Grid} (h : g.Within n) {p : Nat × Nat} {t : Tag}
    (hp : p.1 < n ∧ p.2 < n) (ht : t ≠ .unset) : (g.setTag p.1 p.2 t).Within n := by
  intro r c hne
  rw [Grid.read_setTag _ _ _ _ _ ht] at hne
  split at hne
  case isTrue hrc =>
    obtain ⟨rfl, rfl⟩ := hrc
    exact hp
  case isFalse => exact h r c hne

theorem stampMany_within {n : Nat} {g : Grid} (h : g.Within n) (xs : List Stamp) :
    (stampMany n g xs).Within n := by
  intro r c hne
  by_cases hblank : g.read r c = GridCell.blank
  · rw [stampMany_read, hblank] at hne
    split at hne
    case isTrue hfn => simp [GridCell.blank] at hfn
    case isFalse =>
      split at hne
      case h_1 => exact absurd rfl hne
      case h_2 x hfind =>
        have hx := List.find?_some hfind
        simp only [decide_eq_true_eq] at hx
        exact hx.2.2
  · exact h r c hblank

theorem maskGrid_within {n : Nat} {g : Grid} (h : g.Within n) (T : QrTables) (k : Nat) :
    (maskGrid T k n g).Within n := by
  intro r c hne
  rw [maskGrid_read] at hne
  split at hne
  case isTrue hsquare => exact hsquare.1
  case isFalse => exact h r c hne

@[simp] theorem bitTag_ne_unset (b : Bool) : bitTag b ≠ .unset := by
  cases b <;> simp [bitTag]

theorem placeBits_within {n : Nat} (ps : List (Nat × Nat)) (hps : ∀ p ∈ ps, p.1 < n ∧ p.2 < n)
    (bits : List Bool) {g : Grid} (h : g.Within n) : (placeBits ps bits g).Within n := by
  induction ps generalizing bits g with
  | nil => exact h
  | cons p ps ih =>
    have hrest : ∀ q ∈ ps, q.1 < n ∧ q.2 < n := fun q hq => hps q (List.mem_cons_of_mem _ hq)
    have hp := hps p List.mem_cons_self
    unfold placeBits
    split
    · split
      · exact ih hrest _ (Grid.within_setTag h hp (by simp))
      · exact ih hrest _ (Grid.within_setTag h hp (bitTag_ne_unset _))
    · exact ih hrest _ h

theorem pairColumns_le (fuel right : Nat) : ∀ x ∈ pairColumns fuel right, x ≤ right := by
  induction fuel generalizing right with
  | zero => simp [pairColumns]
  | succ fuel ih =>
    intro x hx
    unfold pairColumns at hx
    split at hx
    · simp at hx
    · dsimp only at hx
      obtain rfl | hx := List.mem_cons.mp hx
      · split <;> omega
      · have := ih _ x hx
        split at this <;> omega

/-- The placer visits modules of the symbol only (R350). -/
theorem visitOrder_within {n : Nat} (hn : 0 < n) : ∀ p ∈ visitOrder n, p.1 < n ∧ p.2 < n := by
  intro p hp
  obtain ⟨right, hright, hpair⟩ := List.mem_flatMap.mp hp
  obtain ⟨vert, hvert, hside⟩ := List.mem_flatMap.mp hpair
  have hcol := pairColumns_le n (n - 1) right hright
  have hrow := List.mem_range.mp hvert
  have hr : (if pairUpward right then n - 1 - vert else vert) < n := by split <;> omega
  simp only [List.mem_cons, List.not_mem_nil, or_false] at hside
  obtain rfl | rfl := hside
  · exact ⟨hr, by simp only; omega⟩
  · exact ⟨hr, by simp only; omega⟩

theorem formatF1_within {n i : Nat} (hn : 15 ≤ n) : (formatF1 i).1 < n ∧ (formatF1 i).2 < n := by
  unfold formatF1
  split_ifs <;> constructor <;> simp only <;> omega

theorem formatF2_within {n i : Nat} (hn : 15 ≤ n) (hi : i < 15) :
    (formatF2 n i).1 < n ∧ (formatF2 n i).2 < n := by
  unfold formatF2
  split <;> constructor <;> simp only <;> omega

theorem versionVA_within {n i : Nat} (hn : 15 ≤ n) (hi : i < 18) :
    (versionVA n i).1 < n ∧ (versionVA n i).2 < n := by
  constructor <;> simp only [versionVA] <;> omega

theorem versionVB_within {n i : Nat} (hn : 15 ≤ n) (hi : i < 18) :
    (versionVB n i).1 < n ∧ (versionVB n i).2 < n := by
  constructor <;> simp only [versionVB] <;> omega

theorem writeFormat_within {n : Nat} {g : Grid} (h : g.Within n) (hn : 15 ≤ n) (w : BitVec 15) :
    (writeFormat n w g).Within n := by
  refine List.foldlRecOn (motive := Grid.Within n) _ _ h fun g hg i hi => ?_
  have hi := List.mem_range.mp hi
  exact Grid.within_setTag (Grid.within_setTag hg (formatF1_within hn) (bitTag_ne_unset _))
    (formatF2_within hn hi) (bitTag_ne_unset _)

theorem writeVersion_within {n : Nat} {g : Grid} (h : g.Within n) (hn : 15 ≤ n) (v : Nat) :
    (writeVersion v n g).Within n := by
  unfold writeVersion
  split
  case isFalse => exact h
  case isTrue =>
    refine List.foldlRecOn (motive := Grid.Within n) _ _ h fun g hg i hi => ?_
    have hi := List.mem_range.mp hi
    exact Grid.within_setTag (Grid.within_setTag hg (versionVA_within hn hi) (bitTag_ne_unset _))
      (versionVB_within hn hi) (bitTag_ne_unset _)

theorem State.gridSide_ge (s : State) : 15 ≤ s.gridSide := by
  simp only [State.gridSide, symbolSize]; omega

/-! ### GRIDSTAT -/

/-- What BlockInv says of GRIDSTAT alone (R59, R303): a legal version with a grid, nothing without one, and
the stages in order. -/
structure GridStat.Legal (g : GridStat) : Prop where
  noGrid : g.valid = false → g = GridStat.reset
  version : g.valid = true → 1 ≤ g.gver.toNat ∧ g.gver.toNat ≤ 40
  sep : g.sSep = true → g.sFinder = true
  timing : g.sTiming = true → g.sSep = true
  align : g.sAlign = true → g.sTiming = true
  fmt : g.sFmt = true → g.sAlign = true
  ver : g.sVer = true → g.sFmt = true
  placed : g.placed = true → g.sVer = true
  sel : g.sel = true → g.placed = true
  final : g.final = true → g.placed = true

theorem GridStat.legal_initial {v : BitVec 6} (hv : legalVersion v.toNat = true) :
    (GridStat.initial v).Legal := by
  have hrange := legalVersion_iff.mp hv
  constructor <;> simp [GridStat.initial, GridStat.reset, hrange]

section stages
variable {g : GridStat}

theorem GridStat.readySep_iff : g.readySep = true ↔ g.valid = true ∧ g.sFinder = true := by
  simp [GridStat.readySep, GridStat.readyFinder]

theorem GridStat.readyTiming_iff : g.readyTiming = true ↔ g.readySep = true ∧ g.sSep = true := by
  simp [GridStat.readyTiming]

theorem GridStat.readyAlign_iff : g.readyAlign = true ↔ g.readyTiming = true ∧ g.sTiming = true := by
  simp [GridStat.readyAlign]

theorem GridStat.readyFmt_iff : g.readyFmt = true ↔ g.readyAlign = true ∧ g.sAlign = true := by
  simp [GridStat.readyFmt]

theorem GridStat.readyVer_iff : g.readyVer = true ↔ g.readyFmt = true ∧ g.sFmt = true := by
  simp [GridStat.readyVer]

theorem GridStat.allStamped_iff : g.allStamped = true ↔ g.readyVer = true ∧ g.sVer = true := by
  simp [GridStat.allStamped]

theorem GridStat.readyMask_iff : g.readyMask = true ↔ g.valid = true ∧ g.placed = true := by
  simp [GridStat.readyMask]

theorem GridStat.valid_of_readyTiming (h : g.readyTiming = true) : g.valid = true :=
  (GridStat.readySep_iff.mp (GridStat.readyTiming_iff.mp h).1).1

theorem GridStat.valid_of_readyAlign (h : g.readyAlign = true) : g.valid = true :=
  GridStat.valid_of_readyTiming (GridStat.readyAlign_iff.mp h).1

theorem GridStat.valid_of_readyFmt (h : g.readyFmt = true) : g.valid = true :=
  GridStat.valid_of_readyAlign (GridStat.readyFmt_iff.mp h).1

theorem GridStat.valid_of_readyVer (h : g.readyVer = true) : g.valid = true :=
  GridStat.valid_of_readyFmt (GridStat.readyVer_iff.mp h).1

theorem GridStat.legal_markFinder (h : g.Legal) (hv : g.valid = true) :
    { g with sFinder := true }.Legal := by
  cases h
  constructor <;> simp_all

theorem GridStat.legal_markSep (h : g.Legal) (hv : g.valid = true) (hprev : g.sFinder = true) :
    { g with sSep := true }.Legal := by
  cases h
  constructor <;> simp_all

theorem GridStat.legal_markTiming (h : g.Legal) (hv : g.valid = true) (hprev : g.sSep = true) :
    { g with sTiming := true }.Legal := by
  cases h
  constructor <;> simp_all

theorem GridStat.legal_markAlign (h : g.Legal) (hv : g.valid = true) (hprev : g.sTiming = true) :
    { g with sAlign := true }.Legal := by
  cases h
  constructor <;> simp_all

theorem GridStat.legal_markFmt (h : g.Legal) (hv : g.valid = true) (hprev : g.sAlign = true) :
    { g with sFmt := true }.Legal := by
  cases h
  constructor <;> simp_all

theorem GridStat.legal_markVer (h : g.Legal) (hv : g.valid = true) (hprev : g.sFmt = true) :
    { g with sVer := true }.Legal := by
  cases h
  constructor <;> simp_all

theorem GridStat.legal_markPlaced (h : g.Legal) (hv : g.valid = true) (hprev : g.sVer = true) :
    { g with placed := true }.Legal := by
  cases h
  constructor <;> simp_all

theorem GridStat.legal_markSel (h : g.Legal) (hv : g.valid = true) (hprev : g.placed = true) :
    { g with sel := true }.Legal := by
  cases h
  constructor <;> simp_all

theorem GridStat.legal_markFinal (h : g.Legal) (hv : g.valid = true) (hprev : g.placed = true) :
    { g with final := true, sel := false }.Legal := by
  cases h
  constructor <;> simp_all

theorem GridStat.legal_unmark (h : g.Legal) (hv : g.valid = true) :
    { g with sel := false, final := false }.Legal := by
  cases h
  constructor <;> simp_all

end stages

/-! ### What BlockInv reads, and what keeps it -/

/-- The fields BlockInv speaks of. -/
def State.invPart (s : State) :
    Engine × Word × Status × Memory × Grid × GridStat × BitVec 9 × Word :=
  (s.engine, s.cmd, s.status, s.mem, s.grid, s.gridstat, s.glen, s.result)

namespace State.BlockInv
variable {s t : State}

/-- BlockInv does not see the other registers, the pending moves, or what the host has read. -/
theorem congr (h : s.BlockInv) (he : t.invPart = s.invPart) : t.BlockInv := by
  cases s
  cases t
  simp only [State.invPart, Prod.mk.injEq] at he
  obtain ⟨rfl, rfl, rfl, rfl, rfl, rfl, rfl, rfl⟩ := he
  exact { h with }

theorem legal (h : s.BlockInv) : s.gridstat.Legal where
  noGrid := h.noGrid
  version := h.gridVersion
  sep := h.sepAfterFinder
  timing := h.timingAfterSep
  align := h.alignAfterTiming
  fmt := h.fmtAfterAlign
  ver := h.verAfterFmt
  placed := h.placedAfterVer
  sel := h.selAfterPlaced
  final := h.finalAfterPlaced

theorem within (h : s.BlockInv) : s.grid.Within s.gridSide := fun r c hne =>
  (h.gridInSymbol r c hne).2

/-- A canonical grid inside the symbol of a legal GRIDSTAT keeps the invariant. -/
theorem setGrid (h : s.BlockInv) {g : Grid} {gs : GridStat} (hwf : g.wf = true)
    (hv : gs.valid = true) (hin : g.Within (symbolSize gs.gver.toNat)) (hlegal : gs.Legal) :
    { s with grid := g, gridstat := gs }.BlockInv :=
  { h with
    gridCanonical := hwf
    gridInSymbol := fun r c hne => ⟨hv, hin r c hne⟩
    noGrid := hlegal.noGrid
    gridVersion := hlegal.version
    sepAfterFinder := hlegal.sep
    timingAfterSep := hlegal.timing
    alignAfterTiming := hlegal.align
    fmtAfterAlign := hlegal.fmt
    verAfterFmt := hlegal.ver
    placedAfterVer := hlegal.placed
    selAfterPlaced := hlegal.sel
    finalAfterPlaced := hlegal.final }

/-- A run of writes inside a buffer keeps the invariant (R67, R68). -/
theorem writeBytes (h : s.BlockInv) {b : Buf} {off : Nat} {xs : List Byte}
    (hfit : off + xs.length ≤ b.size) : (s.writeBytes b off xs).BlockInv :=
  { h with
    memCanonical := Memory.wf_writeRun _ xs h.memCanonical
    memInBuffers := by
      intro a ha
      rw [State.writeBytes_mem, Memory.read_writeRun] at ha
      split at ha
      case isTrue hrun =>
        have hwindow : 0x01000 ≤ b.base ∧ b.base + b.size ≤ 0x03200 := by cases b <;> decide
        omega
      case isFalse => exact h.memInBuffers a ha
    divisorWritten := fun i hi =>
      State.readByte_writeBytes_ne_none (h.divisorWritten i hi) b off xs }

theorem complete (h : s.BlockInv) : s.complete.BlockInv :=
  { h with
    latchedIsCmd := fun w hw => by simp at hw
    errcodeZero := fun _ => rfl
    errcodeListed := fun herr => by simp at herr }

theorem raise (h : s.BlockInv) {c : ErrorCode} (hc : c ≠ .unsupported) : (s.raise c).BlockInv :=
  { h with
    latchedIsCmd := fun w hw => by simp at hw
    errcodeZero := fun herr => by simp at herr
    errcodeListed := fun _ => by cases c <;> simp [ErrorCode.code] at hc ⊢ }

theorem issue (h : s.BlockInv) (w : Word) : (s.issue w).BlockInv :=
  { h with
    latchedIsCmd := fun v hv => by simpa using hv
    errcodeZero := fun _ => rfl
    errcodeListed := fun herr => by simp at herr }

/-- OVERRUN is free (R57). -/
theorem setOverrun (h : s.BlockInv) (b : Bool) :
    { s with status := { s.status with overrun := b } }.BlockInv :=
  { h with }

theorem resetBlock (s : State) : s.resetBlock.BlockInv := by
  constructor <;> simp [State.resetBlock, State.reset, Status.reset, GridStat.reset, Memory.wf,
    Store.rising, Grid.wf]

end State.BlockInv

/-! ### Every body keeps the block invariant -/

namespace State.BlockInv
variable {s t : State}

/-- A stamp command's grid and flag (R302, R303). -/
theorem setStamped (h : s.BlockInv) (hv : s.gridstat.valid = true) (xs : List Stamp) {gs : GridStat}
    (hvalid : gs.valid = s.gridstat.valid) (hgver : gs.gver = s.gridstat.gver) (hlegal : gs.Legal) :
    { s with grid := s.stamped xs, gridstat := gs }.BlockInv := by
  refine h.setGrid (stampMany_wf _ xs h.gridCanonical) (hvalid.trans hv) ?_ hlegal
  rw [hgver]
  exact stampMany_within h.within xs

theorem doFinder (h : s.BlockInv) (hready : s.gridstat.readyFinder = true) : s.doFinder.BlockInv :=
  h.setStamped hready _ rfl rfl (GridStat.legal_markFinder h.legal hready)

theorem doSep (h : s.BlockInv) (hready : s.gridstat.readySep = true) : s.doSep.BlockInv := by
  obtain ⟨hv, hprev⟩ := GridStat.readySep_iff.mp hready
  exact h.setStamped hv _ rfl rfl (GridStat.legal_markSep h.legal hv hprev)

theorem doTiming (h : s.BlockInv) (hready : s.gridstat.readyTiming = true) :
    s.doTiming.BlockInv := by
  have hv := GridStat.valid_of_readyTiming hready
  have hprev := (GridStat.readyTiming_iff.mp hready).2
  exact h.setStamped hv _ rfl rfl (GridStat.legal_markTiming h.legal hv hprev)

theorem doAlign (h : s.BlockInv) (T : QrTables) (hready : s.gridstat.readyAlign = true) :
    (s.doAlign T).BlockInv := by
  have hv := GridStat.valid_of_readyAlign hready
  have hprev := (GridStat.readyAlign_iff.mp hready).2
  exact h.setStamped hv _ rfl rfl (GridStat.legal_markAlign h.legal hv hprev)

theorem doReserveFmt (h : s.BlockInv) (hready : s.gridstat.readyFmt = true) :
    s.doReserveFmt.BlockInv := by
  have hv := GridStat.valid_of_readyFmt hready
  have hprev := (GridStat.readyFmt_iff.mp hready).2
  exact h.setStamped hv _ rfl rfl (GridStat.legal_markFmt h.legal hv hprev)

theorem doReserveVer (h : s.BlockInv) (hready : s.gridstat.readyVer = true) :
    s.doReserveVer.BlockInv := by
  have hv := GridStat.valid_of_readyVer hready
  have hprev := (GridStat.readyVer_iff.mp hready).2
  exact h.setStamped hv _ rfl rfl (GridStat.legal_markVer h.legal hv hprev)

/-- Each of the six stamps leaves what the next one requires (R325). -/
theorem doStampAll (h : s.BlockInv) (T : QrTables) (hv : s.gridstat.valid = true) :
    (s.doStampAll T).BlockInv := by
  have hfinder := h.doFinder hv
  have hsep := hfinder.doSep (by simp [GridStat.readySep_iff, hv])
  have htiming := hsep.doTiming (by simp [GridStat.readyTiming_iff, GridStat.readySep_iff, hv])
  have halign := htiming.doAlign T
    (by simp [GridStat.readyAlign_iff, GridStat.readyTiming_iff, GridStat.readySep_iff, hv])
  have hfmt := halign.doReserveFmt (by
    simp [GridStat.readyFmt_iff, GridStat.readyAlign_iff, GridStat.readyTiming_iff,
      GridStat.readySep_iff, hv])
  exact hfmt.doReserveVer (by
    simp [GridStat.readyVer_iff, GridStat.readyFmt_iff, GridStat.readyAlign_iff,
      GridStat.readyTiming_iff, GridStat.readySep_iff, hv])

theorem doMask (h : s.BlockInv) (hv : s.gridstat.valid = true) (T : QrTables) (k : BitVec 3) :
    (s.doMask T k).BlockInv :=
  h.setGrid (maskGrid_wf T _ _ h.gridCanonical) hv (maskGrid_within h.within T _) h.legal

theorem doFmtwrite (h : s.BlockInv) (hv : s.gridstat.valid = true) (k : BitVec 3) :
    (s.doFmtwrite k).BlockInv :=
  (h.setGrid (writeFormat_wf _ _ h.gridCanonical) hv
    (writeFormat_within h.within s.gridSide_ge _) h.legal).congr rfl

theorem doVerwrite (h : s.BlockInv) (hv : s.gridstat.valid = true) : s.doVerwrite.BlockInv :=
  (h.setGrid (writeVersion_wf _ _ h.gridCanonical) hv
    (writeVersion_within h.within s.gridSide_ge _) h.legal).congr rfl

theorem markFinal (h : s.BlockInv) (hv : s.gridstat.valid = true)
    (hplaced : s.gridstat.placed = true) : s.markFinal.BlockInv :=
  h.setGrid h.gridCanonical hv h.within (GridStat.legal_markFinal h.legal hv hplaced)

theorem setResult (h : s.BlockInv) (b : Byte) : { s with result := zextByte b }.BlockInv :=
  { h with
    resultByte := by
      have := b.isLt
      simp only [zextByte, BitVec.toNat_setWidth]
      omega }

/-- The divisor and its degree are written together (R210). -/
theorem setDivisor (h : s.BlockInv) {d : Nat} (hpos : 0 < d) (hmax : d ≤ 255) :
    { s.writeBytes .gpoly 0 (divisor d) with glen := BitVec.ofNat 9 d }.BlockInv := by
  have hlen := divisor_length hpos
  have hfit : (divisor d).length ≤ Buf.gpoly.size := by
    rw [hlen, Buf.size]
    omega
  have hglen : (BitVec.ofNat 9 d).toNat = d := by
    rw [BitVec.toNat_ofNat]
    omega
  have hwritten : (s.writeBytes .gpoly 0 (divisor d)).BlockInv := h.writeBytes (by omega)
  exact { hwritten with
    divisorDegree := hglen.trans_le hmax
    divisorWritten := fun i hi => by
      have hi : i < (divisor d).length := by
        rw [hlen]
        exact hglen ▸ hi
      exact (State.readByte_writeBytes_self s hi hfit).trans_ne (Option.some_ne_none _) }

theorem after_rsgenBody (h : s.BlockInv) (hb : rsgenBody s = .ok t) : t.BlockInv := by
  obtain ⟨hdeg, rfl⟩ := rsgenBody_eq_ok.mp hb
  simp only [badDegree, Bool.or_eq_true, decide_eq_true_eq, not_or, not_lt] at hdeg
  exact h.setDivisor hdeg.1 hdeg.2

theorem after_rsremBody (h : s.BlockInv) (hb : rsremBody s = .ok t) : t.BlockInv := by
  obtain ⟨-, -, b, -, p, hp, rfl⟩ := rsremBody_eq_ok.mp hb
  refine h.writeBytes ?_
  have hdegree : s.glenNat ≤ 255 := h.divisorDegree
  rw [remainder_length, (State.readBytes_eq_some.mp hp).1, Buf.size]
  omega

theorem after_syndromeBody (h : s.BlockInv) (hb : syndromeBody s = .ok t) : t.BlockInv := by
  obtain ⟨hcnt, -, b, -, rfl⟩ := syndromeBody_eq_ok.mp hb
  simp only [badDegree, Bool.or_eq_true, decide_eq_true_eq] at hcnt
  refine h.writeBytes ?_
  rw [syndromes_length, Buf.size]
  omega

theorem after_interleaveBody (h : s.BlockInv) (hb : interleaveBody qrTables s = .ok t) :
    t.BlockInv := by
  obtain ⟨hv, -, -, data, -, rfl⟩ := interleaveBody_eq_ok.mp hb
  have hwritten := h.writeBytes (b := .cwbuf) (off := 0)
    (by simpa using interleaved_fits hv s.config.ecl data)
  exact hwritten.congr rfl

theorem after_gridinitBody (h : s.BlockInv) (hb : gridinitBody s = .ok t) : t.BlockInv := by
  obtain ⟨hv, rfl⟩ := gridinitBody_eq_ok.mp hb
  exact h.setGrid rfl rfl (fun r c hne => absurd rfl hne) (GridStat.legal_initial hv)

theorem after_stampAllBody {T : QrTables} (h : s.BlockInv) (hb : stampAllBody T s = .ok t) :
    t.BlockInv := by
  obtain ⟨hv, rfl⟩ := staged_eq_ok.mp hb
  exact h.doStampAll T hv

theorem after_placeBody (h : s.BlockInv) (hb : placeBody s = .ok t) : t.BlockInv := by
  obtain ⟨hstamped, -, -, -, bytes, -, rfl⟩ := placeBody_eq_ok.mp hb
  obtain ⟨hready, hver⟩ := GridStat.allStamped_iff.mp hstamped
  have hv := GridStat.valid_of_readyVer hready
  have hside : 0 < s.gridSide := Nat.lt_of_lt_of_le (by omega) s.gridSide_ge
  exact h.setGrid (placeBits_wf _ _ h.gridCanonical) hv
    (placeBits_within _ (visitOrder_within hside) _ h.within)
    (GridStat.legal_markPlaced h.legal hv hver)

theorem after_maskapplyBody {T : QrTables} {k : BitVec 3} (h : s.BlockInv)
    (hb : maskapplyBody T k s = .ok t) : t.BlockInv := by
  obtain ⟨hready, rfl⟩ := staged_eq_ok.mp hb
  obtain ⟨hv, -⟩ := GridStat.readyMask_iff.mp hready
  exact h.setGrid (maskGrid_wf T _ _ h.gridCanonical) hv (maskGrid_within h.within T _)
    (GridStat.legal_unmark h.legal hv)

theorem after_selectBody {T : QrTables} (h : s.BlockInv) (hb : selectBody T s = .ok t) :
    t.BlockInv := by
  obtain ⟨hready, rfl⟩ := staged_eq_ok.mp hb
  obtain ⟨hv, hplaced⟩ := GridStat.readyMask_iff.mp hready
  have hgrid := h.setGrid (gs := { s.gridstat with sel := true }) h.gridCanonical hv h.within
    (GridStat.legal_markSel h.legal hv hplaced)
  exact hgrid.congr rfl

theorem after_finalizeBody {T : QrTables} (h : s.BlockInv) (hb : finalizeBody T s = .ok t) :
    t.BlockInv := by
  obtain ⟨hready, rfl⟩ := staged_eq_ok.mp hb
  obtain ⟨⟨⟨hv, hplaced⟩, -⟩, -⟩ : ((s.gridstat.valid = true ∧ s.gridstat.placed = true) ∧
      s.gridstat.sel = true) ∧ s.gridstat.final = false := by
    simpa [GridStat.readyFinalize] using hready
  exact (((h.doMask hv T _).doFmtwrite hv _).doVerwrite hv).markFinal hv hplaced

theorem after_encodeBody (h : s.BlockInv) (hb : encodeBody qrTables s = .ok t) : t.BlockInv := by
  obtain ⟨s₁, h₁, s₂, h₂, s₃, h₃, s₄, h₄, s₅, h₅, h₆⟩ := encodeBody_eq_ok.mp hb
  have hplaced := (((h.after_interleaveBody h₁).after_gridinitBody h₂).after_stampAllBody
    h₃).after_placeBody h₄
  exact (hplaced.after_selectBody h₅).after_finalizeBody h₆

/-- The state a command's body answers meets the invariant. -/
theorem after_commandBody {i : Instr} (h : s.BlockInv) (hb : commandBody i s = .ok t) : t.BlockInv := by
  cases i with
  | nop => exact ok_eq_ok.mp hb ▸ h
  | gfmul => exact (gfmulBody_eq_ok.mp hb).2 ▸ h.setResult _
  | polyeval =>
    obtain ⟨-, -, b, -, rfl⟩ := polyevalBody_eq_ok.mp hb
    exact h.setResult _
  | rsgen => exact h.after_rsgenBody hb
  | rsrem => exact h.after_rsremBody hb
  | syndrome => exact h.after_syndromeBody hb
  | capq => exact h.congr ((capqBody_eq_ok.mp hb).2 ▸ rfl)
  | interleave => exact h.after_interleaveBody hb
  | gridinit => exact h.after_gridinitBody hb
  | stampFinder => exact (staged_eq_ok.mp hb).2 ▸ h.doFinder (staged_eq_ok.mp hb).1
  | stampSep => exact (staged_eq_ok.mp hb).2 ▸ h.doSep (staged_eq_ok.mp hb).1
  | stampTiming => exact (staged_eq_ok.mp hb).2 ▸ h.doTiming (staged_eq_ok.mp hb).1
  | stampAlign => exact (staged_eq_ok.mp hb).2 ▸ h.doAlign _ (staged_eq_ok.mp hb).1
  | reserveFmt => exact (staged_eq_ok.mp hb).2 ▸ h.doReserveFmt (staged_eq_ok.mp hb).1
  | reserveVer => exact (staged_eq_ok.mp hb).2 ▸ h.doReserveVer (staged_eq_ok.mp hb).1
  | stampAll => exact h.after_stampAllBody hb
  | place => exact h.after_placeBody hb
  | maskapply k => exact h.after_maskapplyBody hb
  | score k => exact h.congr ((staged_eq_ok.mp hb).2 ▸ rfl)
  | select => exact h.after_selectBody hb
  | fmtenc k => exact h.congr (ok_eq_ok.mp hb ▸ rfl)
  | fmtwrite k =>
    obtain ⟨hready, rfl⟩ := staged_eq_ok.mp hb
    exact h.doFmtwrite (Bool.and_eq_true_iff.mp hready).1 k
  | verenc => exact h.congr ((verencBody_eq_ok.mp hb).2 ▸ rfl)
  | verwrite =>
    obtain ⟨hready, rfl⟩ := staged_eq_ok.mp hb
    exact h.doVerwrite (Bool.and_eq_true_iff.mp hready).1
  | finalize => exact h.after_finalizeBody hb
  | encode => exact h.after_encodeBody hb

end State.BlockInv

/-! ### No command raises UNSUPPORTED (R501) -/

theorem staged_ne_unsupported (ready : Bool) (t : State) :
    staged ready t ≠ raiseError .unsupported := by
  simp [staged_eq_raiseError]

theorem interleaveBody_ne_unsupported (T : QrTables) (s : State) :
    interleaveBody T s ≠ raiseError .unsupported := by
  simp [interleaveBody, guard_eq_raiseError, withBytes_eq_raiseError]

theorem gridinitBody_ne_unsupported (s : State) : gridinitBody s ≠ raiseError .unsupported := by
  simp [gridinitBody, require_eq_raiseError]

theorem placeBody_ne_unsupported (s : State) : placeBody s ≠ raiseError .unsupported := by
  simp only [placeBody, guard_eq_raiseError, withBytes_eq_raiseError, ok_ne_raiseError, ne_eq]
  simp

theorem encodeBody_ne_unsupported (T : QrTables) (s : State) :
    encodeBody T s ≠ raiseError .unsupported := by
  simp [encodeBody, bind_eq_raiseError, interleaveBody_ne_unsupported, gridinitBody_ne_unsupported,
    placeBody_ne_unsupported, stampAllBody, selectBody, finalizeBody, staged_ne_unsupported]

theorem commandBody_ne_unsupported (i : Instr) (s : State) :
    commandBody i s ≠ raiseError .unsupported := by
  cases i with
  | nop | fmtenc => exact ok_ne_raiseError _ _
  | gfmul => simp [commandBody, gfmulBody, guard_eq_raiseError]
  | polyeval =>
    simp [commandBody, polyevalBody, guard_eq_raiseError, withBytes_eq_raiseError]
  | rsgen => simp [commandBody, rsgenBody, guard_eq_raiseError]
  | rsrem => simp [commandBody, rsremBody, guard_eq_raiseError, withBytes_eq_raiseError]
  | syndrome => simp [commandBody, syndromeBody, guard_eq_raiseError, withBytes_eq_raiseError]
  | capq => simp [commandBody, capqBody, require_eq_raiseError]
  | interleave => exact interleaveBody_ne_unsupported _ s
  | gridinit => exact gridinitBody_ne_unsupported s
  | place => exact placeBody_ne_unsupported s
  | verenc => simp [commandBody, verencBody, require_eq_raiseError]
  | encode => exact encodeBody_ne_unsupported _ s
  | stampFinder | stampSep | stampTiming | stampAlign | reserveFmt | reserveVer | stampAll
  | maskapply | score | select | fmtwrite | verwrite | finalize => exact staged_ne_unsupported _ _

end Sys2Proof.Machine
end

section
/-! PROOFS of the family "state". The address map, and O59: every step keeps the block invariant. -/

namespace Sys2Proof.Machine

/-! ### The address map -/

/-- The registers stand at their offsets and nowhere else (R53, R54). -/
theorem Reg.ofOffset_offset (r : Reg) : Reg.ofOffset r.offset = some r := by
  cases r with
  | pen k => revert k; decide
  | _ => rfl

theorem Reg.exists_offset {o : Nat} (halign : o % 4 = 0) (h : o < 0x70) :
    ∃ r : Reg, r.offset = o := by
  obtain hpen | hlow := Nat.lt_or_ge o 0x50 |>.symm
  · refine ⟨.pen (BitVec.ofNat 3 ((o - 0x50) / 4)), ?_⟩
    simp only [Reg.offset, BitVec.toNat_ofNat]
    omega
  · have hfixed : ∀ m < 20, ∃ r ∈ [Reg.id, .cmd, .status, .config, .opa, .opb, .opc, .result, .dlen,
        .cwlen, .glen, .gridstat, .capblk, .capecc, .capraw, .capdata, .capshort, .masksel, .fmtbits,
        .verbits], r.offset = 4 * m := by decide
    obtain ⟨r, -, hr⟩ := hfixed (o / 4) (by omega)
    exact ⟨r, by omega⟩

theorem Reg.ofOffset_eq_none {o : Nat} (h : 0x70 ≤ o) : Reg.ofOffset o = none := by
  unfold Reg.ofOffset
  split
  case h_21 => rw [if_neg (by omega)]
  all_goals omega

open Sys2Proof.Claims in
/-- The words that are mapped (R54, R121). -/
theorem mapAddress_eq_none_iff {a : Nat} (halign : a % 4 = 0) :
    mapAddress a = none ↔ ¬ Mapped a := by
  unfold mapAddress Mapped
  by_cases hreg : a < 0x70
  · obtain ⟨r, rfl⟩ := Reg.exists_offset halign hreg
    simp [show r.offset < 0x1000 by omega, Reg.ofOffset_offset, hreg]
  · split
    case isTrue hlow => simp [Reg.ofOffset_eq_none (by omega : 0x70 ≤ a)]; omega
    case isFalse => split_ifs <;> simp <;> omega

open Sys2Proof.Claims in
/-- A legal access is one aligned word of a mapped address (R122, R126). -/
theorem accessTarget_eq_none_iff {width a : Nat} :
    accessTarget width a = none ↔ ¬ (width = 4 ∧ a % 4 = 0 ∧ Mapped a) := by
  unfold accessTarget
  by_cases hword : width = 4 ∧ a % 4 = 0
  · rw [if_pos hword, mapAddress_eq_none_iff hword.2]
    simp [hword]
  · rw [if_neg hword]
    simp only [true_iff]
    exact fun h => hword ⟨h.1, h.2.1⟩

/-- A word of a buffer window holds four bytes of the buffer (R121). -/
theorem accessTarget_buf_fits {width a i : Nat} {b : Buf}
    (h : accessTarget width a = some (.buf b i)) : i + 4 ≤ b.size := by
  unfold accessTarget mapAddress at h
  split_ifs at h <;> simp at h
  all_goals
    obtain ⟨rfl, rfl⟩ := h
    simp only [Buf.size, streamBufSize]
    omega

/-! ### Every step keeps the block invariant -/

namespace State.BlockInv
variable {s t : State}

theorem after_exec {i : Instr} (h : s.BlockInv) (he : exec i s = .next t) : t.BlockInv := by
  obtain ⟨u, hbody, rfl⟩ | ⟨c, hbody, rfl⟩ := exec_eq_next he
  · exact (h.after_commandBody hbody).complete
  · refine h.raise ?_
    rintro rfl
    exact commandBody_ne_unsupported i s hbody

theorem after_engineTurn (h : s.BlockInv) (he : engineTurn exec s = .next t) : t.BlockInv := by
  cases hengine : s.engine with
  | idle =>
    simp only [engineTurn, hengine, Host.Outcome.next.injEq] at he
    exact he ▸ h
  | busy w =>
    cases hdecode : decode w with
    | ok i => exact h.after_exec (engineTurn_of_decode hengine hdecode ▸ he)
    | error e =>
      rw [engineTurn_of_illegal hengine hdecode, Host.Outcome.next.injEq] at he
      exact he ▸ h.raise (by simp)

/-- A read delivers a word and may draw; BlockInv sees neither (R128). -/
theorem readIdle (h : s.BlockInv) (x : Target) : (s.readIdle x).BlockInv := by
  cases x with
  | reg r => exact h.congr rfl
  | grid r c => exact h.congr rfl
  | buf b i =>
    unfold State.readIdle
    dsimp only
    split <;> exact h.congr rfl

theorem readBusy (h : s.BlockInv) (x : Target) : (s.readBusy x).BlockInv := by
  unfold State.readBusy
  split <;> exact h.congr rfl

theorem writeReg (h : s.BlockInv) (r : Reg) (v : Word) : (s.writeReg r v).BlockInv := by
  cases r with
  | cmd => exact h.issue v
  | status =>
    unfold State.writeReg
    dsimp only
    split
    · exact h.setOverrun false
    · exact h
  | _ => exact h.congr rfl

/-- A host write reaches a register or four bytes of one buffer (R123, R125). -/
theorem writeIdle (h : s.BlockInv) (v : Word) {width addr : Nat} {x : Target}
    (hx : accessTarget width addr = some x) : (s.writeIdle v x).BlockInv := by
  cases x with
  | reg r => exact h.writeReg r v
  | grid r c => exact h
  | buf b i =>
    unfold State.writeIdle
    dsimp only
    split
    · exact h.writeBytes (accessTarget_buf_fits hx)
    · exact h

theorem after_busRead (h : s.BlockInv) {width addr : Nat} (he : busRead width addr s = .next t) :
    t.BlockInv := by
  unfold busRead at he
  split at he
  · simp at he
  · next x hx =>
    rw [Host.Outcome.next.injEq] at he
    subst he
    split
    · exact h.readBusy x
    · exact h.readIdle x

theorem after_busWrite (h : s.BlockInv) {width addr : Nat} {v : Word}
    (he : busWrite width addr v s = .next t) : t.BlockInv := by
  unfold busWrite at he
  split at he
  · simp at he
  · next x hx =>
    rw [Host.Outcome.next.injEq] at he
    subst he
    split
    · exact h.setOverrun true
    · exact h.writeIdle v hx

theorem after_pollTurn (h : s.BlockInv) {rest : List Move} (he : pollTurn exec rest s = .next t) :
    t.BlockInv := by
  unfold pollTurn at he
  split at he
  · exact h.after_engineTurn he
  · rw [Host.Outcome.next.injEq] at he
    exact he ▸ h.congr rfl

theorem after_moveTurn (h : s.BlockInv) {m : Move} {rest : List Move}
    (he : moveTurn exec m rest s = .next t) : t.BlockInv := by
  have hrest : { s with inputs := rest }.BlockInv := h.congr rfl
  cases m with
  | write width addr v => exact hrest.after_busWrite he
  | read width addr => exact hrest.after_busRead he
  | wait => exact h.after_pollTurn he
  | engine => exact hrest.after_engineTurn he
  | reset =>
    obtain rfl := Host.Outcome.next.inj he
    exact resetBlock _

theorem after_step (h : s.BlockInv) (he : step s = .next t) : t.BlockInv := by
  cases hmoves : s.inputs with
  | nil => exact h.after_engineTurn (step_of_noMove hmoves ▸ he)
  | cons m rest => exact h.after_moveTurn (step_of_move hmoves ▸ he)

end State.BlockInv

end Sys2Proof.Machine

namespace Sys2Proof.Proofs

open Sys2Proof.Machine

/-- Settles O59: the engine's commands, the host's accesses and reset each keep the invariant. -/
theorem everyStepKeepsBlockInv : Obligations.EveryStepKeepsBlockInv := by
  unfold Obligations.EveryStepKeepsBlockInv
  exact fun s t h he => h.after_step he

end Sys2Proof.Proofs
end

section
/-! PROOFS of the family "state". What the host reads: O10 and O16. -/

namespace Sys2Proof.Machine

/-! ### What the host reads -/

/-- While Idle a read at a register's offset gives the host that register (R53, R128). -/
theorem step_readReg {s : State} {r : Reg} {rest : List Move} (hidle : s.engine = .idle)
    (hread : s.inputs = .read 4 r.offset :: rest) :
    step s = .next { s with inputs := rest, rdata := some (s.readReg r) } := by
  have hbusy : { s with inputs := rest }.isBusy = false := by simp [State.isBusy, hidle]
  have halign : r.offset % 4 = 0 := by cases r <;> simp [Reg.offset]
  have hlow : r.offset < 0x1000 := by
    cases r with
    | pen k => simp only [Reg.offset]; omega
    | _ => decide
  have htarget : accessTarget 4 r.offset = some (.reg r) := by
    rw [accessTarget, if_pos ⟨rfl, halign⟩, mapAddress, if_pos hlow, Reg.ofOffset_offset]
    rfl
  have hmoves : { s with inputs := rest }.readReg r = s.readReg r := by cases r <;> rfl
  rw [step_of_move hread, moveTurn, busRead, htarget]
  simp only [hbusy, Bool.false_eq_true, if_false, State.readIdle, State.deliver, hmoves]

/-- Bit `j` of a flag placed at bit `i` (R57, R59). -/
theorem getLsbD_flagAt (b : Bool) (i j : Nat) (hj : j < 32) :
    (flagAt b i).getLsbD j = (b && decide (j = i)) := by
  cases b
  · simp [flagAt]
  · simp only [flagAt, if_true, BitVec.getLsbD_shiftLeft, Bool.true_and]
    by_cases hji : j = i
    · subst hji; simp [hj]
    · by_cases hlt : j < i
      · simp [hlt, hji]
      · have : j - i ≠ 0 := by omega
        simp [BitVec.getLsbD_one, this, hji, hlt]

open Sys2Proof.Claims

theorem getLsbD_statusWord (s : State) {i : Nat} (hi : i < 32) :
    s.statusWord.getLsbD i = statusBit s i := by
  have hbusy : s.isBusy = decide (s.engine ≠ .idle) := by
    unfold State.isBusy
    cases s.engine <;> simp
  simp only [State.statusWord, BitVec.getLsbD_or, getLsbD_flagAt _ _ _ hi, hbusy,
    BitVec.getLsbD_shiftLeft, BitVec.getLsbD_setWidth]
  unfold statusBit
  interval_cases i <;> simp

theorem getLsbD_gridstatWord (g : GridStat) {i : Nat} (hi : i < 32) :
    g.word.getLsbD i = gridstatBit g i := by
  simp only [GridStat.word, BitVec.getLsbD_or, getLsbD_flagAt _ _ _ hi,
    BitVec.getLsbD_shiftLeft, BitVec.getLsbD_setWidth]
  unfold gridstatBit
  interval_cases i <;> simp

/-- CONFIG: the level above the version (R58). -/
theorem toNat_readReg_config (s : State) :
    (s.readReg .config).toNat = s.config.version.toNat + 2 ^ 8 * eclNumber s.config.ecl := by
  have hversion : s.config.version.toNat < 2 ^ 8 := by omega
  have hlevel : ((eccToBits s.config.ecl).setWidth 32 <<< 8).toNat =
      eclNumber s.config.ecl <<< 8 := by
    cases s.config.ecl <;> rfl
  rw [State.readReg, BitVec.toNat_or, hlevel, BitVec.toNat_setWidth_of_le (by omega),
    ← Nat.shiftLeft_add_eq_or_of_lt hversion, Nat.shiftLeft_eq]
  omega

/-- CAPSHORT: the short block's length above the number of short blocks (R64). -/
theorem toNat_readReg_capshort (s : State) : (s.readReg .capshort).toNat =
    s.capshort.numShort.toNat + 2 ^ 16 * s.capshort.shortLen.toNat := by
  rw [State.readReg, BitVec.toNat_append, ← Nat.shiftLeft_add_eq_or_of_lt s.capshort.numShort.isLt,
    Nat.shiftLeft_eq]
  omega

end Sys2Proof.Machine

namespace Sys2Proof.Proofs

open Sys2Proof.Machine Sys2Proof.Claims

/-- Settles O10: an access faults exactly where it has no target, and every other host move goes on. -/
theorem busErrorExactlyOnBadAccess : Obligations.BusErrorExactlyOnBadAccess := by
  unfold Obligations.BusErrorExactlyOnBadAccess
  intro s width a rest
  rw [← accessTarget_eq_none_iff]
  refine ⟨fun v h => ?_, fun h => ?_⟩
  · rw [step_of_move h, moveTurn, busWrite]
    cases accessTarget width a <;> simp
  · rw [step_of_move h, moveTurn, busRead]
    cases accessTarget width a <;> simp

/-- Settles O16: the read is `readReg` of the register at the offset, whose fields are then read off. -/
theorem registerReadsShowTheirFields : Obligations.RegisterReadsShowTheirFields := by
  unfold Obligations.RegisterReadsShowTheirFields
  refine ⟨fun s a rest x hidle hread hstep => ?_, fun s a rest hidle hread halign hlow => ?_,
    fun s i hi => ⟨getLsbD_statusWord s hi, getLsbD_gridstatWord _ hi⟩⟩
  · have value : ∀ r : Reg, a = r.offset → x = s.readReg r := by
      rintro r rfl
      have hboth := hstep.symm.trans (step_readReg hidle hread)
      exact Option.some.inj (congrArg State.rdata (Host.Outcome.next.inj hboth))
    refine ⟨value .id, value .cmd, fun h i hi => ?_, fun h => ?_, value .opa, value .opb, value .opc,
      value .result, value .dlen, value .cwlen, fun h => ?_, fun h i hi => ?_, fun h => ?_,
      fun h => ?_, fun h => ?_, fun h => ?_, fun h => ?_, fun h => ?_, fun h => ?_, fun h => ?_,
      fun k h => ?_⟩
    · exact value .status h ▸ getLsbD_statusWord s hi
    · exact value .config h ▸ toNat_readReg_config s
    · exact value .glen h ▸ BitVec.toNat_setWidth_of_le (by decide)
    · exact value .gridstat h ▸ getLsbD_gridstatWord _ hi
    · exact value .capblk h ▸ BitVec.toNat_setWidth_of_le (by decide)
    · exact value .capecc h ▸ BitVec.toNat_setWidth_of_le (by decide)
    · exact value .capraw h ▸ BitVec.toNat_setWidth_of_le (by decide)
    · exact value .capdata h ▸ BitVec.toNat_setWidth_of_le (by decide)
    · exact value .capshort h ▸ toNat_readReg_capshort s
    · exact value .masksel h ▸ BitVec.toNat_setWidth_of_le (by decide)
    · exact value .fmtbits h ▸ BitVec.toNat_setWidth_of_le (by decide)
    · exact value .verbits h ▸ BitVec.toNat_setWidth_of_le (by decide)
    · exact value (.pen (BitVec.ofFin k)) h
  · obtain ⟨r, rfl⟩ := Reg.exists_offset halign hlow
    exact ⟨_, step_readReg hidle hread⟩

end Sys2Proof.Proofs
end

section
/-! PROOFS of the family "memory". What an access to each window reaches, and what the step of a host
read or write then answers. -/

namespace Sys2Proof.Machine

open Sys2Proof.Claims

/-! ### What each window holds (R121) -/

theorem accessTarget_reg (r : Reg) : accessTarget 4 r.offset = some (.reg r) := by
  have halign : r.offset % 4 = 0 := by cases r <;> simp [Reg.offset]
  have hlow : r.offset < 0x1000 := by
    cases r with
    | pen k => simp only [Reg.offset]; omega
    | _ => decide
  rw [accessTarget, if_pos ⟨rfl, halign⟩, mapAddress, if_pos hlow, Reg.ofOffset_offset]
  rfl

theorem accessTarget_buf {b : Buf} {i : Nat} (hi : i < b.size) (halign : (b.base + i) % 4 = 0) :
    accessTarget 4 (b.base + i) = some (.buf b i) := by
  rw [accessTarget, if_pos ⟨rfl, halign⟩]
  unfold mapAddress
  cases b <;> simp only [Buf.base, Buf.size, streamBufSize] at hi ⊢ <;>
    simp (disch := omega) only [if_pos, if_neg, Nat.add_sub_cancel_left]

theorem accessTarget_grid {r c : Nat} (hr : r < 256) (hc : c < 256) (halign : c % 4 = 0) :
    accessTarget 4 (0x10000 + 256 * r + c) = some (.grid r c) := by
  have hrow : (0x10000 + 256 * r + c - 0x10000) / 256 = r := by omega
  have hcol : (0x10000 + 256 * r + c - 0x10000) % 256 = c := by omega
  rw [accessTarget, if_pos ⟨rfl, by omega⟩]
  unfold mapAddress
  simp (disch := omega) only [if_pos, if_neg, hrow, hcol]

theorem Buf.exists_base_add {a : Nat} (hlow : 0x01000 ≤ a) (hhigh : a < 0x03200) :
    ∃ b : Buf, ∃ i < b.size, a = b.base + i := by
  have inWindow : ∀ b : Buf, b.base ≤ a → a < b.base + b.size →
      ∃ b : Buf, ∃ i < b.size, a = b.base + i :=
    fun b h h' => ⟨b, a - b.base, by omega, by omega⟩
  by_cases h1 : a < 0x02000
  · exact inWindow .dbuf hlow h1
  by_cases h2 : a < 0x03000
  · exact inWindow .cwbuf (by simp only [Buf.base]; omega) h2
  by_cases h3 : a < 0x03100
  · exact inWindow .gpoly (by simp only [Buf.base]; omega) h3
  · exact inWindow .rembuf (by simp only [Buf.base]; omega) hhigh

/-- The host may write the buffers below GPOLY (R67, R121). -/
theorem Buf.hostWritable_iff {b : Buf} {i : Nat} (hi : i < b.size) :
    b.hostWritable = true ↔ b.base + i < 0x03000 := by
  cases b <;> simp [Buf.hostWritable, Buf.base, Buf.size, streamBufSize] at hi ⊢ <;> omega

theorem exists_accessTarget {a : Nat} (halign : a % 4 = 0) (hmapped : Mapped a) :
    ∃ x, accessTarget 4 a = some x := by
  refine Option.ne_none_iff_exists'.mp fun hnone => ?_
  exact accessTarget_eq_none_iff.mp hnone ⟨rfl, halign, hmapped⟩

/-! ### The step of a host access -/

section access
variable {s : State} {width a : Nat} {v w : Word} {x : Target} {rest : List Move}

theorem State.isBusy_of_idle (h : s.engine = .idle) : s.isBusy = false := by
  rw [State.isBusy, h]

theorem State.isBusy_of_busy (h : s.engine = .busy w) : s.isBusy = true := by
  rw [State.isBusy, h]

theorem step_write_of_target (hwrite : s.inputs = .write width a v :: rest)
    (hx : accessTarget width a = some x) :
    step s = .next (if s.isBusy then { s with inputs := rest }.writeBusy
      else { s with inputs := rest }.writeIdle v x) := by
  rw [step_of_move hwrite, moveTurn, busWrite, hx]
  rfl

theorem step_read_of_target (hread : s.inputs = .read width a :: rest)
    (hx : accessTarget width a = some x) :
    step s = .next (if s.isBusy then { s with inputs := rest }.readBusy x
      else { s with inputs := rest }.readIdle x) := by
  rw [step_of_move hread, moveTurn, busRead, hx]
  rfl

theorem step_write_idle (hidle : s.engine = .idle) (hwrite : s.inputs = .write width a v :: rest)
    (hx : accessTarget width a = some x) :
    step s = .next ({ s with inputs := rest }.writeIdle v x) := by
  rw [step_write_of_target hwrite hx, State.isBusy_of_idle hidle]
  rfl

theorem step_write_busy (hbusy : s.engine = .busy w) (hwrite : s.inputs = .write width a v :: rest)
    (hx : accessTarget width a = some x) : step s = .next { s with inputs := rest }.writeBusy := by
  rw [step_write_of_target hwrite hx, State.isBusy_of_busy hbusy]
  rfl

theorem step_read_idle (hidle : s.engine = .idle) (hread : s.inputs = .read width a :: rest)
    (hx : accessTarget width a = some x) :
    step s = .next ({ s with inputs := rest }.readIdle x) := by
  rw [step_read_of_target hread hx, State.isBusy_of_idle hidle]
  rfl

theorem step_read_busy (hbusy : s.engine = .busy w) (hread : s.inputs = .read width a :: rest)
    (hx : accessTarget width a = some x) :
    step s = .next ({ s with inputs := rest }.readBusy x) := by
  rw [step_read_of_target hread hx, State.isBusy_of_busy hbusy]
  rfl

end access

/-! ### What a read changes (R128) -/

/-- A buffer read draws exactly where it shows an unwritten byte (R68). -/
theorem State.readIdle_buf (s : State) (b : Buf) (i : Nat) : s.readIdle (.buf b i) =
    { s with
      rdata := some (s.bufWord b i)
      draws := if s.wordWritten b i then s.draws else s.draws + 4 } := by
  unfold State.readIdle
  dsimp only
  split <;> rfl

theorem State.readIdle_frame (s : State) (x : Target) :
    ∃ (w : Word) (d : Nat), s.readIdle x = { s with rdata := some w, draws := d } := by
  cases x with
  | reg r => exact ⟨_, _, rfl⟩
  | grid r c => exact ⟨_, _, rfl⟩
  | buf b i => exact ⟨_, _, s.readIdle_buf b i⟩

theorem State.readBusy_frame (s : State) (x : Target) :
    ∃ (w : Word) (d : Nat), s.readBusy x = { s with rdata := some w, draws := d } := by
  unfold State.readBusy
  split <;> exact ⟨_, _, rfl⟩

/-- A read of a mapped word delivers some word, Idle or Busy, and changes nothing of the block. -/
theorem step_read_frame {s : State} {width a : Nat} {x : Target} {rest : List Move}
    (hread : s.inputs = .read width a :: rest) (hx : accessTarget width a = some x) :
    ∃ (w : Word) (d : Nat),
      step s = .next { s with inputs := rest, rdata := some w, draws := d } := by
  rw [step_read_of_target hread hx]
  split
  · obtain ⟨w, d, h⟩ := State.readBusy_frame { s with inputs := rest } x
    exact ⟨w, d, congrArg _ h⟩
  · obtain ⟨w, d, h⟩ := State.readIdle_frame { s with inputs := rest } x
    exact ⟨w, d, congrArg _ h⟩

/-! ### Byte lanes (R123) -/

/-- Each lane of a word built from four bytes is its byte. The widths are given because the type `Word`
of `laneWord` does not show where its bytes meet. -/
theorem laneByte_laneWord (f : Nat → Byte) {j : Nat} (hj : j < 4) :
    laneByte (laneWord (f 0) (f 1) (f 2) (f 3)) j = f j := by
  unfold laneByte laneWord
  interval_cases j <;>
    simp [BitVec.extractLsb'_append_eq_ite (v := 24) (w := 8),
      BitVec.extractLsb'_append_eq_ite (v := 16) (w := 8),
      BitVec.extractLsb'_append_eq_ite (v := 8) (w := 8)]

theorem State.laneByte_bufWord (s : State) (b : Buf) (i : Nat) {j : Nat} (hj : j < 4) :
    laneByte (s.bufWord b i) j = s.hostByte b (i + j) (s.draws + j) :=
  laneByte_laneWord (fun j => s.hostByte b (i + j) (s.draws + j)) hj

theorem State.laneByte_gridWord (s : State) (r c : Nat) {j : Nat} (hj : j < 4) :
    laneByte (s.gridWord r c) j = s.gridByte r (c + j) :=
  laneByte_laneWord (fun j => s.gridByte r (c + j)) hj

/-- Read after the write of a word, lane by lane. -/
theorem Memory.read_writeLanes (m : Memory) (a a' : Nat) (v : Word) :
    (m.writeRun a [laneByte v 0, laneByte v 1, laneByte v 2, laneByte v 3]).read a' =
      if a ≤ a' ∧ a' < a + 4 then some (laneByte v (a' - a)) else m.read a' := by
  have hlanes : [laneByte v 0, laneByte v 1, laneByte v 2, laneByte v 3] =
      (List.range 4).map (laneByte v) := rfl
  simp [hlanes, Memory.read_writeRun]

/-! ### Written bytes (R68) -/

theorem State.readByte_of_lt (s : State) {b : Buf} {i : Nat} (hi : i < b.size) :
    s.readByte b i = s.mem.read (b.base + i) := if_pos hi

/-- A word all of whose bytes are written is read without a draw (R68). -/
theorem State.wordWritten_of_read_ne_none {s : State} {b : Buf} {i : Nat} (hfit : i + 4 ≤ b.size)
    (h : ∀ j < 4, s.mem.read (b.base + i + j) ≠ none) : s.wordWritten b i = true := by
  rw [State.wordWritten, Option.isSome_iff_ne_none]
  intro hnone
  obtain ⟨j, hj, hunwritten⟩ := State.readBytes_eq_none.mp hnone
  rw [s.readByte_of_lt (by omega), ← Nat.add_assoc] at hunwritten
  exact h j hj hunwritten

/-! ### The grid window (R127) -/

theorem GridCell.byte_eq_ofNat (m : GridCell) : BitVec.ofBool m.fn ++ (0 : BitVec 4) ++ m.tag.code =
    BitVec.ofNat 8 ((if m.fn then 128 else 0) + m.tag.code.toNat) := by
  obtain ⟨tag, fn⟩ := m
  cases fn <;> cases tag <;> rfl

/-! ### Writes to registers (R125) -/

@[simp] theorem eccToBits_eccOfBits (b : BitVec 2) : eccToBits (eccOfBits b) = b := by
  revert b; decide

/-- CONFIG stores bits 5:0 and 9:8 of the written word (R58). -/
theorem State.readReg_config_writeReg_config (s : State) (v : Word) :
    (s.writeReg .config v).readReg .config = v &&& 0x33F := by
  simp only [State.writeReg, State.readReg, eccToBits_eccOfBits]
  ext k hk
  interval_cases k <;> simp

/-- The offsets of the registers a host write reaches (R54, R125). -/
def writableOffsets : List Nat := [0x004, 0x008, 0x00C, 0x010, 0x014, 0x018, 0x020, 0x024]

theorem State.writeReg_of_not_writable (s : State) {r : Reg} (v : Word)
    (h : r.offset ∉ writableOffsets) : s.writeReg r v = s := by
  cases r with
  | cmd | status | config | opa | opb | opc | dlen | cwlen =>
    simp [Reg.offset, writableOffsets] at h
  | _ => rfl

/-- A write outside the writable registers, DBUF and CWBUF is ignored (R125). -/
theorem State.exists_ignoring_target {a : Nat} (halign : a % 4 = 0) (hmapped : Mapped a)
    (hreg : a ∉ writableOffsets) (hbuf : ¬ (0x01000 ≤ a ∧ a < 0x03000)) :
    ∃ x, accessTarget 4 a = some x ∧ ∀ (s : State) (v : Word), s.writeIdle v x = s := by
  obtain hlow | ⟨hlow, hhigh⟩ | ⟨hlow, hhigh⟩ := hmapped
  · obtain ⟨r, rfl⟩ := Reg.exists_offset halign hlow
    exact ⟨_, accessTarget_reg r, fun s v => s.writeReg_of_not_writable v hreg⟩
  · obtain ⟨b, i, hi, rfl⟩ := Buf.exists_base_add hlow hhigh
    have hro : ¬ b.hostWritable = true := fun hw => hbuf ⟨hlow, (Buf.hostWritable_iff hi).mp hw⟩
    exact ⟨_, accessTarget_buf hi halign, fun s v => if_neg hro⟩
  · obtain ⟨r, c, hr, hc, hcol, rfl⟩ : ∃ r c, r < 256 ∧ c < 256 ∧ c % 4 = 0 ∧
        a = 0x10000 + 256 * r + c :=
      ⟨(a - 0x10000) / 256, (a - 0x10000) % 256, by omega, by omega, by omega, by omega⟩
    exact ⟨_, accessTarget_grid hr hc hcol, fun s v => rfl⟩

end Sys2Proof.Machine
end

section
/-! PROOFS of the family "memory": O11 to O15. -/

namespace Sys2Proof.Proofs

open Sys2Proof.Machine Sys2Proof.Claims

/-- Settles O11: while Busy a mapped write is `writeBusy`, and a mapped read `readBusy`. -/
theorem busyHostAccesses : Obligations.BusyHostAccesses := by
  unfold Obligations.BusyHostAccesses
  intro s w a rest hbusy halign hmapped
  obtain ⟨x, hx⟩ := exists_accessTarget halign hmapped
  refine ⟨fun v hwrite => step_write_busy hbusy hwrite hx, ?_,
    fun hread _ => step_read_frame hread hx⟩
  rintro hread rfl
  refine ⟨s.statusWord, step_read_busy hbusy hread (accessTarget_reg .status), ?_,
    fun i hi => getLsbD_statusWord s hi⟩
  simp [statusBit, hbusy]

/-- Settles O12: the address lies in one buffer, whose word is written and read lane by lane. -/
theorem bufferWordsAreLittleEndian : Obligations.BufferWordsAreLittleEndian := by
  unfold Obligations.BufferWordsAreLittleEndian
  intro s a rest hidle halign hlow
  refine ⟨fun v hwrite hhigh => ?_, fun hread hhigh => ?_⟩
  · obtain ⟨b, i, hi, rfl⟩ := Buf.exists_base_add hlow (by omega)
    have hw : b.hostWritable = true := (Buf.hostWritable_iff hi).mpr hhigh
    have hstep := step_write_idle hidle hwrite (accessTarget_buf hi halign)
    rw [State.writeIdle, if_pos hw] at hstep
    refine ⟨_, hstep, fun j hj => ?_, fun x hx => ?_⟩
    · rw [Memory.read_writeLanes, if_pos (by omega), Nat.add_sub_cancel_left]
      rfl
    · rw [Memory.read_writeLanes, if_neg hx]
  · obtain ⟨b, i, hi, rfl⟩ := Buf.exists_base_add hlow hhigh
    have hx := accessTarget_buf hi halign
    have hfit := accessTarget_buf_fits hx
    refine ⟨s.bufWord b i, if s.wordWritten b i then s.draws else s.draws + 4, ?_,
      fun j y hj hy => ?_, fun hwritten => ?_⟩
    · rw [step_read_idle hidle hread hx, State.readIdle_buf]
      rfl
    · have hbyte : s.readByte b (i + j) = some y := by
        rw [s.readByte_of_lt (by omega), ← Nat.add_assoc, hy]
      have hlane := s.laneByte_bufWord b i hj
      rw [State.hostByte, hbyte] at hlane
      exact hlane
    · rw [State.wordWritten_of_read_ne_none hfit hwritten]
      rfl

/-- Settles O13: an answered read has a target, and `step_read_frame` says what it changes. -/
theorem readsHaveNoSideEffect : Obligations.ReadsHaveNoSideEffect := by
  unfold Obligations.ReadsHaveNoSideEffect
  intro s t width a rest hread hstep
  cases hx : accessTarget width a with
  | none => simp [step_of_move hread, moveTurn, busRead, hx] at hstep
  | some x =>
    obtain ⟨w, d, hframe⟩ := step_read_frame hread hx
    obtain rfl := Host.Outcome.next.inj (hframe.symm.trans hstep)
    rfl

/-- Settles O14: the word's lane `j` is the grid byte of module `(r, c + j)`. -/
theorem gridWindowShowsModules : Obligations.GridWindowShowsModules := by
  unfold Obligations.GridWindowShowsModules
  intro s r c rest hidle hr hc hcol hread
  refine ⟨s.gridWord r c, step_read_idle hidle hread (accessTarget_grid hr hc hcol), fun j hj => ?_⟩
  have hlane := s.laneByte_gridWord r c hj
  rw [State.gridByte] at hlane
  refine hlane.trans (if_congr Iff.rfl ?_ rfl)
  rw [GridCell.byte_eq_ofNat]
  cases (s.grid.read r (c + j)).tag <;> rfl

/-- Settles O15: the write is `writeReg` of the register at the offset, or ignored. -/
theorem idleRegisterWrites : Obligations.IdleRegisterWrites := by
  unfold Obligations.IdleRegisterWrites
  intro s a v rest hidle hwrite
  have atReg : ∀ r : Reg, a = r.offset →
      step s = .next ({ s with inputs := rest }.writeReg r v) := by
    rintro r rfl
    exact step_write_idle hidle hwrite (accessTarget_reg r)
  refine ⟨atReg .cmd, fun h => ?_,
    fun h => ⟨_, atReg .config h, State.readReg_config_writeReg_config s v⟩, atReg .opa, atReg .opb,
    atReg .opc, atReg .dlen, atReg .cwlen, fun halign hmapped hreg hbuf => ?_⟩
  · rw [atReg .status h, State.writeReg]
    cases v.getLsbD 8 <;> simp
  · obtain ⟨x, hx, hignored⟩ := State.exists_ignoring_target halign hmapped hreg hbuf
    rw [step_write_idle hidle hwrite hx, hignored]

end Sys2Proof.Proofs
end

section
/-! PROOFS of the family "encoding". The command word and its fields, decoding as the inverse of encoding,
the words that decode, and the rows they select. -/

namespace Sys2Proof

/-! ### A word is its fields (R160) -/

theorem splitWord_joinWord (f : CmdFields) : splitWord (joinWord f) = f := by
  have hop : (joinWord f).extractLsb' 0 8 = f.op := BitVec.extractLsb'_append_eq_right
  have hk : (joinWord f).extractLsb' 8 3 = f.k :=
    (BitVec.extractLsb'_append_eq_of_le (by decide)).trans BitVec.extractLsb'_append_eq_right
  have hrsv : (joinWord f).extractLsb' 11 21 = f.rsv :=
    (BitVec.extractLsb'_append_eq_of_le (by decide)).trans BitVec.extractLsb'_append_eq_left
  rw [splitWord, hop, hk, hrsv]

theorem joinWord_splitWord (w : Word) : joinWord (splitWord w) = w := by
  have hhigh : w.extractLsb' 11 21 ++ w.extractLsb' 8 3 = w.extractLsb' 8 24 :=
    BitVec.extractLsb'_append_extractLsb'_eq_extractLsb' rfl
  calc joinWord (splitWord w) = w.extractLsb' 8 24 ++ w.extractLsb' 0 8 :=
        congrArg (· ++ w.extractLsb' 0 8) hhigh
    _ = w := BitVec.extractLsb'_append_extractLsb' (w := 24) (len := 8)

theorem joinWord_inj {f g : CmdFields} : joinWord f = joinWord g ↔ f = g :=
  (Function.LeftInverse.injective splitWord_joinWord).eq_iff

theorem joinWord_and_joinWord (f g : CmdFields) : joinWord f &&& joinWord g =
    joinWord { op := f.op &&& g.op, k := f.k &&& g.k, rsv := f.rsv &&& g.rsv } := by
  have hhigh : (f.rsv ++ f.k) &&& (g.rsv ++ g.k) = (f.rsv &&& g.rsv) ++ (f.k &&& g.k) :=
    BitVec.and_append
  exact BitVec.and_append.trans (congrArg (· ++ (f.op &&& g.op)) hhigh)

/-! ### Decoding is the inverse of encoding (R165) -/

theorem decodeFields_encodeFields (i : Instr) : decodeFields (encodeFields i) = .ok i := by
  cases i <;> rfl

theorem decode_encode (i : Instr) : decode (encode i) = .ok i := by
  rw [decode, encode, splitWord_joinWord, decodeFields_encodeFields]

theorem encodeFields_of_maskCommand {op : BitVec 8} {k : BitVec 3} {i : Instr}
    (h : maskCommand op k = some i) : encodeFields i = { op, k, rsv := 0 } := by
  have hfields : opcode i = op ∧ maskIndex i = k := by
    unfold maskCommand at h
    split at h <;> cases h <;> next hop => exact ⟨BitVec.eq_of_toNat_eq hop.symm, rfl⟩
  rw [encodeFields, hfields.1, hfields.2]

theorem encodeFields_of_plainCommand {op : BitVec 8} {i : Instr} (h : plainCommand op = some i) :
    encodeFields i = { op, k := 0, rsv := 0 } := by
  have hfields : opcode i = op ∧ maskIndex i = 0 := by
    unfold plainCommand at h
    split at h <;> cases h <;> next hop => exact ⟨BitVec.eq_of_toNat_eq hop.symm, rfl⟩
  rw [encodeFields, hfields.1, hfields.2]

theorem encodeFields_of_decodeFields {f : CmdFields} {i : Instr} (h : decodeFields f = .ok i) :
    encodeFields i = f := by
  obtain ⟨op, k, rsv⟩ := f
  unfold decodeFields at h
  split at h
  · cases h
  next hrsv =>
    obtain rfl : rsv = 0 := not_not.mp hrsv
    split at h
    next hmask =>
      cases h
      exact encodeFields_of_maskCommand hmask
    next =>
      split at h
      · cases h
      next hplain =>
        split at h
        · cases h
        next hk =>
          obtain rfl : k = 0 := not_not.mp hk
          cases h
          exact encodeFields_of_plainCommand hplain

theorem decode_eq_ok_iff {w : Word} {i : Instr} : decode w = .ok i ↔ encode i = w := by
  refine ⟨fun h => ?_, fun h => h ▸ decode_encode i⟩
  rw [encode, encodeFields_of_decodeFields h, joinWord_splitWord]

/-! ### The words that decode are the legal ones (R162) -/

theorem CmdFields.wf_iff {f : CmdFields} : f.wf = true ↔
    f.rsv = 0 ∧ f.op ∈ plainOpcodes ++ maskOpcodes ∧ (f.k = 0 ∨ f.op ∈ maskOpcodes) := by
  simp [wf, reservedClear, opcodeListed, maskIndexAllowed, and_assoc]

theorem wf_encodeFields (i : Instr) : (encodeFields i).wf = true := by
  cases i with
  | maskapply | score | fmtenc | fmtwrite =>
    simp [CmdFields.wf_iff, encodeFields, opcode, maskOpcodes]
  | _ => rfl

theorem isSome_maskCommand : ∀ op ∈ maskOpcodes, ∀ k, (maskCommand op k).isSome = true := by decide

theorem isSome_plainCommand : ∀ op ∈ plainOpcodes, (plainCommand op).isSome = true := by decide

theorem CmdFields.wf_iff_exists_command {f : CmdFields} :
    f.wf = true ↔ ∃ i, encodeFields i = f := by
  refine ⟨fun h => ?_, fun ⟨i, hi⟩ => hi ▸ wf_encodeFields i⟩
  obtain ⟨op, k, rsv⟩ := f
  obtain ⟨rfl, hop, hk⟩ := wf_iff.mp h
  by_cases hmask : op ∈ maskOpcodes
  · obtain ⟨i, hi⟩ := Option.isSome_iff_exists.mp (isSome_maskCommand op hmask k)
    exact ⟨i, encodeFields_of_maskCommand hi⟩
  · obtain rfl : k = 0 := hk.resolve_right hmask
    have hplain : op ∈ plainOpcodes := (List.mem_append.mp hop).resolve_right hmask
    obtain ⟨i, hi⟩ := Option.isSome_iff_exists.mp (isSome_plainCommand op hplain)
    exact ⟨i, encodeFields_of_plainCommand hi⟩

theorem wf_splitWord_iff_decodes {w : Word} :
    (splitWord w).wf = true ↔ ∃ i, decode w = .ok i := by
  refine CmdFields.wf_iff_exists_command.trans (exists_congr fun i => ?_)
  rw [decode_eq_ok_iff, ← joinWord_inj, joinWord_splitWord, encode]

theorem not_wf_splitWord_iff_refused {w : Word} :
    ¬ (splitWord w).wf = true ↔ ∃ e, decode w = .error e := by
  rw [wf_splitWord_iff_decodes]
  cases decode w <;> simp

/-! ### The rows of the opcode table (R166) -/

/-- The row of an opcode: its mask leaves K out exactly if the command takes it. -/
def rowOfOpcode (op : BitVec 8) : Row :=
  if op ∈ maskOpcodes then maskRow (joinWord { op, k := 0, rsv := 0 })
  else plainRow (joinWord { op, k := 0, rsv := 0 })

theorem opcodeRows_perm : opcodeRows.Perm ((plainOpcodes ++ maskOpcodes).map rowOfOpcode) := by
  decide

theorem nodup_opcodes : (plainOpcodes ++ maskOpcodes).Nodup := by decide

theorem Row.selects_iff {x : Row} {w : Word} : x.selects w = true ↔ w &&& x.mask = x.pattern := by
  rw [selects, beq_iff_eq]

theorem maskRow_selects_iff {op : BitVec 8} {w : Word} :
    (maskRow (joinWord { op, k := 0, rsv := 0 })).selects w = true ↔
      (splitWord w).op = op ∧ (splitWord w).rsv = 0 := by
  have hmask : (0xFFFFF8FF : Word) =
      joinWord { op := BitVec.allOnes 8, k := 0, rsv := BitVec.allOnes 21 } := by decide
  obtain ⟨f, rfl⟩ : ∃ f, joinWord f = w := ⟨_, joinWord_splitWord w⟩
  rw [Row.selects_iff, maskRow, hmask, joinWord_and_joinWord, joinWord_inj, splitWord_joinWord,
    CmdFields.mk.injEq, BitVec.and_allOnes, BitVec.and_allOnes]
  exact and_congr_right fun _ => and_iff_right BitVec.and_zero

theorem plainRow_selects_iff {op : BitVec 8} {w : Word} :
    (plainRow (joinWord { op, k := 0, rsv := 0 })).selects w = true ↔
      (splitWord w).op = op ∧ (splitWord w).rsv = 0 ∧ (splitWord w).k = 0 := by
  have hmask : (0xFFFFFFFF : Word) = BitVec.allOnes 32 := by decide
  obtain ⟨f, rfl⟩ : ∃ f, joinWord f = w := ⟨_, joinWord_splitWord w⟩
  rw [Row.selects_iff, plainRow, hmask, BitVec.and_allOnes, joinWord_inj, splitWord_joinWord,
    CmdFields.mk.injEq, and_comm (a := f.rsv = 0)]

theorem rowOfOpcode_selects_iff {op : BitVec 8} {w : Word} :
    (rowOfOpcode op).selects w = true ↔ (splitWord w).op = op ∧ (splitWord w).rsv = 0 ∧
      ((splitWord w).k = 0 ∨ (splitWord w).op ∈ maskOpcodes) := by
  unfold rowOfOpcode
  split
  next hop =>
    rw [maskRow_selects_iff]
    exact and_congr_right fun h => by simp [h, hop]
  next hop =>
    rw [plainRow_selects_iff]
    exact and_congr_right fun h => by simp [h, hop]

theorem countP_selects_of_wf {w : Word} (h : (splitWord w).wf = true) :
    opcodeRows.countP (·.selects w) = 1 := by
  obtain ⟨hrsv, hop, hk⟩ := CmdFields.wf_iff.mp h
  have hrow : ∀ op, (rowOfOpcode op).selects w = (op == (splitWord w).op) := fun op => by
    rw [Bool.eq_iff_iff, rowOfOpcode_selects_iff, beq_iff_eq, eq_comm (a := op)]
    exact and_iff_left ⟨hrsv, hk⟩
  calc opcodeRows.countP (·.selects w)
      = (plainOpcodes ++ maskOpcodes).countP fun op => (rowOfOpcode op).selects w := by
        rw [opcodeRows_perm.countP_eq, List.countP_map]
        rfl
    _ = (plainOpcodes ++ maskOpcodes).count (splitWord w).op := by simp only [hrow, List.count]
    _ = 1 := List.count_eq_one_of_mem nodup_opcodes hop

theorem wf_splitWord_of_selects {x : Row} {w : Word} (hx : x ∈ opcodeRows)
    (h : x.selects w = true) : (splitWord w).wf = true := by
  obtain ⟨op, hop, rfl⟩ := List.mem_map.mp (opcodeRows_perm.mem_iff.mp hx)
  obtain ⟨rfl, hrsv, hk⟩ := rowOfOpcode_selects_iff.mp h
  exact CmdFields.wf_iff.mpr ⟨hrsv, hop, hk⟩

end Sys2Proof

namespace Sys2Proof.Machine

/-- R162 names the words that are not well-formed, and the decoder refuses each. -/
theorem engineTurn_of_not_wf {run : Meaning} {s : State} {w : Word} (h : s.engine = .busy w)
    (hwf : ¬ (splitWord w).wf = true) : engineTurn run s = .next (s.raise .illegal) := by
  obtain ⟨e, he⟩ := not_wf_splitWord_iff_refused.mp hwf
  exact engineTurn_of_illegal h he

/-- On the engine's own move the step is the engine's turn, the move used up. -/
theorem step_of_engineMove {s : State} {rest : List Move} (h : s.inputs = .engine :: rest) :
    step s = engineTurn exec { s with inputs := rest } := by
  rw [step_of_move h, moveTurn]

/-- While the engine is Busy, a poll of the host gives it the turn and stays the next move. -/
theorem step_of_busyWait {s : State} {w : Word} {rest : List Move} (h : s.inputs = .wait :: rest)
    (hbusy : s.engine = .busy w) : step s = engineTurn exec s := by
  rw [step_of_move h, moveTurn, pollTurn, if_pos (State.isBusy_of_busy hbusy)]

end Sys2Proof.Machine
end

section
/-! PROOFS of the family "encoding": O1, O2, O3 and O5. -/

namespace Sys2Proof.Proofs

open Sys2Proof.Machine

/-- Settles O1: `joinWord` loses no field, and `decodeFields` finds each command by its fields. -/
theorem decodeOfEncodeIsTheCommand : Obligations.DecodeOfEncodeIsTheCommand := by
  unfold Obligations.DecodeOfEncodeIsTheCommand
  exact fun i _ => decode_encode i

/-- Settles O2: a word decodes exactly if its fields are legal, and then only the row of its OP
matches. -/
theorem rowsAreDisjointAndCoverLegalWords : Obligations.RowsAreDisjointAndCoverLegalWords := by
  unfold Obligations.RowsAreDisjointAndCoverLegalWords
  intro w
  cases h : decode w with
  | ok i => exact ⟨countP_selects_of_wf (wf_splitWord_iff_decodes.mpr ⟨i, h⟩), decode_eq_ok_iff.mp h⟩
  | error e =>
    have hwf : ¬ (splitWord w).wf = true := not_wf_splitWord_iff_refused.mpr ⟨e, h⟩
    exact List.countP_eq_zero.mpr fun x hx hsel => hwf (wf_splitWord_of_selects hx hsel)

/-- Settles O3: each legal word is the word of its command. -/
theorem wordsOfTheTableDecode : Obligations.WordsOfTheTableDecode := by
  unfold Obligations.WordsOfTheTableDecode
  exact ⟨decode_encode .nop, decode_encode .gfmul, decode_encode .interleave,
    decode_encode .stampAlign, decode_encode .place, decode_encode (.maskapply 3),
    decode_encode (.score 7), decode_encode .finalize, decode_encode .encode, rfl, rfl, rfl⟩

/-- Settles O5: such a word is not well-formed, and each of the three turns is `engineTurn`. -/
theorem illegalWordRaisesIllegal : Obligations.IllegalWordRaisesIllegal := by
  unfold Obligations.IllegalWordRaisesIllegal
  intro s w hbusy hillegal
  have hwf : ¬ (splitWord w).wf = true := by
    rw [CmdFields.wf_iff]
    rintro ⟨hrsv, hop, hk⟩
    obtain h | h | ⟨h, hmask⟩ := hillegal
    · exact h hrsv
    · exact h hop
    · exact hk.elim h hmask
  exact ⟨fun h => (step_of_noMove h).trans (engineTurn_of_not_wf hbusy hwf),
    fun rest h => (step_of_engineMove h).trans (engineTurn_of_not_wf hbusy hwf),
    fun rest h => (step_of_busyWait h hbusy).trans (engineTurn_of_not_wf hbusy hwf)⟩

end Sys2Proof.Proofs
end

section
/-! PROOFS of the family "field". GF(2^8): every operation of R200 respects addition, so that two of them
agree once they agree on the powers of t; the field laws; and α, whose order is 255 (R202). -/

namespace Sys2Proof.Machine

open Sys2Proof.Claims

/-! ### Maps that respect addition -/

/-- A map of bit vectors that respects addition of polynomials over GF(2), which is exclusive or. -/
def XorAdditive {v w : Nat} (f : BitVec v → BitVec w) : Prop :=
  ∀ a b, f (a ^^^ b) = f a ^^^ f b

namespace XorAdditive

variable {u v w : Nat}

theorem map_zero {f : BitVec v → BitVec w} (hf : XorAdditive f) : f 0#v = 0#w := by
  have h := hf 0#v 0#v
  rwa [BitVec.xor_self, BitVec.xor_self] at h

theorem const_zero : XorAdditive fun _ : BitVec v => (0 : BitVec w) :=
  fun _ _ => BitVec.xor_self.symm

theorem id : XorAdditive fun a : BitVec v => a := fun _ _ => rfl

theorem setWidth (w : Nat) : XorAdditive fun a : BitVec v => a.setWidth w :=
  fun _ _ => BitVec.setWidth_xor

theorem shiftLeft (i : Nat) : XorAdditive fun a : BitVec v => a <<< i :=
  fun _ _ => BitVec.shiftLeft_xor_distrib _ _ _

theorem comp {g : BitVec v → BitVec w} {f : BitVec u → BitVec v} (hg : XorAdditive g)
    (hf : XorAdditive f) : XorAdditive fun a => g (f a) :=
  fun a b => (congrArg g (hf a b)).trans (hg _ _)

theorem xor {f g : BitVec v → BitVec w} (hf : XorAdditive f) (hg : XorAdditive g) :
    XorAdditive fun a => f a ^^^ g a := fun a b => by
  simp only [hf a b, hg a b]
  ac_rfl

/-- The choice of `c` by one bit of the argument. -/
theorem bit (i : Nat) (c : BitVec w) : XorAdditive fun a : BitVec v => if a.getLsbD i then c else 0 :=
  fun a b => by
    simp only [BitVec.getLsbD_xor]
    cases a.getLsbD i <;> cases b.getLsbD i <;> simp

/-- A map under a condition that does not depend on its argument. -/
theorem ite (b : Bool) {f : BitVec v → BitVec w} (hf : XorAdditive f) :
    XorAdditive fun a => if b then f a else 0 := by
  cases b with
  | true => exact hf
  | false => exact const_zero

/-- A loop of steps that respect addition, taken together with the accumulator they start from. -/
theorem foldl {step : BitVec v → BitVec w → Nat → BitVec w}
    (hstep : ∀ i, ∀ {acc : BitVec v → BitVec w}, XorAdditive acc →
      XorAdditive fun a => step a (acc a) i)
    (l : List Nat) {acc : BitVec v → BitVec w} (hacc : XorAdditive acc) :
    XorAdditive fun a => l.foldl (step a) (acc a) := by
  induction l generalizing acc with
  | nil => exact hacc
  | cons i l ih => exact ih (hstep i hacc)

end XorAdditive

/-- A byte is the sum of the powers of t whose bits it has (R200). -/
theorem byte_eq_fieldSum_bits (y : Byte) :
    y = fieldSum ((List.range 8).map fun i => if y.getLsbD i then (1 : Byte) <<< i else 0) := by
  revert y
  decide +kernel

/-- Two maps that respect addition and agree on the powers of t agree on every byte. -/
theorem XorAdditive.ext {w : Nat} {f g : Byte → BitVec w} (hf : XorAdditive f) (hg : XorAdditive g)
    (h : ∀ i < 8, f ((1 : Byte) <<< i) = g ((1 : Byte) <<< i)) (y : Byte) : f y = g y := by
  have agree_on_sum : ∀ l : List Byte, (∀ a ∈ l, f a = g a) → f (fieldSum l) = g (fieldSum l) := by
    intro l hl
    induction l with
    | nil => exact hf.map_zero.trans hg.map_zero.symm
    | cons a l ih =>
      obtain ⟨ha, hl⟩ := List.forall_mem_cons.mp hl
      exact (hf a _).trans ((congrArg₂ _ ha (ih hl)).trans (hg a _).symm)
  rw [byte_eq_fieldSum_bits y]
  refine agree_on_sum _ fun a ha => ?_
  obtain ⟨i, hi, rfl⟩ := List.mem_map.mp ha
  cases y.getLsbD i with
  | true => exact h i (List.mem_range.mp hi)
  | false => exact hf.map_zero.trans hg.map_zero.symm

/-- A summand taken twice cancels. -/
theorem xor_xor_cancel (a b : Byte) : a ^^^ (a ^^^ b) = b := by
  rw [← BitVec.xor_assoc, BitVec.xor_self, BitVec.zero_xor]

/-! ### The product respects addition on both sides -/

theorem gfDouble_xorAdditive : XorAdditive gfDouble :=
  (XorAdditive.setWidth 8).comp
    (((XorAdditive.shiftLeft 1).comp (XorAdditive.setWidth 9)).xor (XorAdditive.bit 7 gfModulus))

theorem gfmulLoop_xorAdditive_right (x : Byte) (i : Nat) {z : Byte → Byte} (hz : XorAdditive z) :
    XorAdditive fun y => gfmulLoop x y i (z y) := by
  induction i generalizing z with
  | zero => exact hz
  | succ i ih => exact ih ((gfDouble_xorAdditive.comp hz).xor (XorAdditive.bit i x))

theorem gfmulLoop_xorAdditive_left (y : Byte) (i : Nat) {z : Byte → Byte} (hz : XorAdditive z) :
    XorAdditive fun x => gfmulLoop x y i (z x) := by
  induction i generalizing z with
  | zero => exact hz
  | succ i ih =>
    exact ih ((gfDouble_xorAdditive.comp hz).xor (XorAdditive.id.ite (y.getLsbD i)))

theorem gfmul_xorAdditive_right (x : Byte) : XorAdditive (gfmul x) :=
  gfmulLoop_xorAdditive_right x 8 .const_zero

theorem gfmul_xorAdditive_left (y : Byte) : XorAdditive fun x => gfmul x y :=
  gfmulLoop_xorAdditive_left y 8 .const_zero

/-- Distributivity (R202). -/
theorem gfmul_xor (x y z : Byte) : gfmul x (y ^^^ z) = gfmul x y ^^^ gfmul x z :=
  gfmul_xorAdditive_right x y z

theorem xor_gfmul (x y z : Byte) : gfmul (x ^^^ y) z = gfmul x z ^^^ gfmul y z :=
  gfmul_xorAdditive_left z x y

@[simp] theorem gfmul_zero (x : Byte) : gfmul x 0#8 = 0#8 := (gfmul_xorAdditive_right x).map_zero

@[simp] theorem zero_gfmul (y : Byte) : gfmul 0#8 y = 0#8 := (gfmul_xorAdditive_left y).map_zero

/-! ### The reduced product (R200) -/

theorem polyProduct_xorAdditive_right (x : Byte) : XorAdditive (polyProduct x) :=
  .foldl (fun i _ hacc => hacc.xor (.bit i (x.setWidth 16 <<< i))) _ .const_zero

theorem polyProduct_xorAdditive_left (y : Byte) : XorAdditive fun x => polyProduct x y :=
  .foldl (fun i _ hacc =>
    hacc.xor (((XorAdditive.shiftLeft i).comp (.setWidth 16)).ite (y.getLsbD i))) _ .const_zero

theorem polyReduce_xorAdditive : XorAdditive polyReduce :=
  .foldl (step := fun _ acc i => acc ^^^ (if acc.getLsbD (8 + i) then (0x11D : BitVec 16) <<< i else 0))
    (fun i _ hacc => hacc.xor ((XorAdditive.bit (8 + i) ((0x11D : BitVec 16) <<< i)).comp hacc)) _ .id

/-- The reduced product is the field product: both respect addition in each factor, and they agree on
the 64 products of two powers of t. -/
theorem polyReduce_polyProduct (x y : Byte) :
    polyReduce (polyProduct x y) = (gfmul x y).setWidth 16 := by
  have widen := XorAdditive.setWidth (v := 8) 16
  refine XorAdditive.ext (polyReduce_xorAdditive.comp (polyProduct_xorAdditive_left y))
    (widen.comp (gfmul_xorAdditive_left y)) (fun i hi => ?_) x
  refine XorAdditive.ext (polyReduce_xorAdditive.comp (polyProduct_xorAdditive_right _))
    (widen.comp (gfmul_xorAdditive_right _)) (fun j hj => ?_) y
  revert i j
  decide +kernel

/-! ### The field laws (R202) -/

theorem gfmul_comm (x y : Byte) : gfmul x y = gfmul y x := by
  refine XorAdditive.ext (gfmul_xorAdditive_left y) (gfmul_xorAdditive_right y) (fun i hi => ?_) x
  refine XorAdditive.ext (gfmul_xorAdditive_right _) (gfmul_xorAdditive_left _) (fun j hj => ?_) y
  revert i j
  decide +kernel

@[simp] theorem gfmul_one (x : Byte) : gfmul x 1#8 = x := by
  refine XorAdditive.ext (gfmul_xorAdditive_left 1) .id ?_ x
  decide

@[simp] theorem one_gfmul (x : Byte) : gfmul 1#8 x = x := by rw [gfmul_comm, gfmul_one]

theorem gfmul_assoc (x y z : Byte) : gfmul (gfmul x y) z = gfmul x (gfmul y z) := by
  refine XorAdditive.ext ((gfmul_xorAdditive_left z).comp (gfmul_xorAdditive_left y))
    (gfmul_xorAdditive_left _) (fun i hi => ?_) x
  refine XorAdditive.ext ((gfmul_xorAdditive_left z).comp (gfmul_xorAdditive_right _))
    ((gfmul_xorAdditive_right _).comp (gfmul_xorAdditive_left z)) (fun j hj => ?_) y
  refine XorAdditive.ext (gfmul_xorAdditive_right _)
    ((gfmul_xorAdditive_right _).comp (gfmul_xorAdditive_right _)) (fun k hk => ?_) z
  revert i j k
  decide +kernel

theorem gfmul_left_comm (x y z : Byte) : gfmul x (gfmul y z) = gfmul y (gfmul x z) := by
  rw [← gfmul_assoc, gfmul_comm x y, gfmul_assoc]

/-! ### The powers of α (R12, R202) -/

@[simp] theorem alphaPow_zero : alphaPow 0 = 1#8 := rfl

theorem alphaPow_succ (i : Nat) : alphaPow (i + 1) = gfmul (alphaPow i) gfAlpha := rfl

theorem alphaPow_eq_iterate (i : Nat) : alphaPow i = (gfmul · gfAlpha)^[i] 1#8 := by
  induction i with
  | zero => rfl
  | succ i ih => rw [Function.iterate_succ_apply', ← ih, alphaPow_succ]

theorem alphaPow_add (i j : Nat) : alphaPow (i + j) = gfmul (alphaPow i) (alphaPow j) := by
  induction j with
  | zero => simp
  | succ j ih => rw [← Nat.add_assoc, alphaPow_succ, ih, gfmul_assoc, ← alphaPow_succ]

theorem alphaPow_255 : alphaPow 255 = 1#8 := by decide +kernel

theorem isPeriodicPt_iff_alphaPow {n : Nat} :
    Function.IsPeriodicPt (gfmul · gfAlpha) n 1#8 ↔ alphaPow n = 1#8 := by
  rw [alphaPow_eq_iterate]
  rfl

/-- The order of α divides 255 and none of 85, 51 and 15, its quotients by a prime. -/
theorem minimalPeriod_gfAlpha : Function.minimalPeriod (gfmul · gfAlpha) 1#8 = 255 := by
  have hnot : ∀ n ∈ [85, 51, 15], ¬ Function.minimalPeriod (gfmul · gfAlpha) 1#8 ∣ n := by
    simp only [← Function.isPeriodicPt_iff_minimalPeriod_dvd, isPeriodicPt_iff_alphaPow]
    decide +kernel
  have hdvd := (isPeriodicPt_iff_alphaPow.mpr alphaPow_255).minimalPeriod_dvd
  generalize Function.minimalPeriod (gfmul · gfAlpha) 1#8 = n at hnot hdvd
  have hdivisors : ∀ n ∈ Nat.divisors 255, (∀ m ∈ [85, 51, 15], ¬ n ∣ m) → n = 255 := by
    decide
  exact hdivisors n (Nat.mem_divisors.mpr ⟨hdvd, by decide⟩) hnot

theorem alphaPow_injOn : Set.InjOn alphaPow (Set.Iio 255) := by
  have h := Function.iterate_injOn_Iio_minimalPeriod (f := (gfmul · gfAlpha)) (x := 1#8)
  rw [minimalPeriod_gfAlpha] at h
  exact h.congr fun i _ => (alphaPow_eq_iterate i).symm

/-- Every power of α has an inverse. -/
theorem gfmul_alphaPow_inverse {i : Nat} (hi : i < 255) :
    gfmul (alphaPow i) (alphaPow (255 - i)) = 1#8 := by
  rw [← alphaPow_add, Nat.add_sub_cancel' hi.le, alphaPow_255]

theorem alphaPow_ne_zero {i : Nat} (hi : i < 255) : alphaPow i ≠ 0#8 := by
  intro h
  have hinv := gfmul_alphaPow_inverse hi
  rw [h, zero_gfmul] at hinv
  exact absurd hinv (by decide)

/-- The 255 distinct powers of α are all of the 255 bytes other than 0. -/
theorem exists_alphaPow_eq {x : Byte} (hx : x ≠ 0#8) : ∃ i < 255, alphaPow i = x := by
  have hmaps : Set.MapsTo (fun i => (alphaPow i).toNat) (Finset.range 255) (Finset.Ico 1 256) := by
    intro i hi
    have hne : alphaPow i ≠ 0#8 := alphaPow_ne_zero (by simpa using hi)
    have hpos : (alphaPow i).toNat ≠ 0 := fun h => hne (BitVec.eq_of_toNat_eq h)
    simpa [Nat.one_le_iff_ne_zero, hpos] using (alphaPow i).isLt
  have hinj : Set.InjOn (fun i => (alphaPow i).toNat) (Finset.range 255) := fun i hi j hj h =>
    alphaPow_injOn (by simpa using hi) (by simpa using hj) (BitVec.eq_of_toNat_eq h)
  have hpos : x.toNat ≠ 0 := fun h => hx (BitVec.eq_of_toNat_eq h)
  obtain ⟨i, hi, h⟩ := Finset.surjOn_of_injOn_of_card_le _ hmaps hinj (by simp)
    (show x.toNat ∈ (Finset.Ico 1 256 : Set ℕ) by
      simpa [Nat.one_le_iff_ne_zero, hpos] using x.isLt)
  exact ⟨i, by simpa using hi, BitVec.eq_of_toNat_eq h⟩

/-- Every non-zero byte has exactly one inverse (R202). -/
theorem exists_unique_inverse {x : Byte} (hx : x ≠ 0#8) :
    ∃ y, gfmul x y = 1#8 ∧ ∀ z, gfmul x z = 1#8 → z = y := by
  obtain ⟨i, hi, rfl⟩ := exists_alphaPow_eq hx
  refine ⟨_, gfmul_alphaPow_inverse hi, fun z hz => ?_⟩
  rw [← gfmul_one z, ← gfmul_alphaPow_inverse hi, gfmul_left_comm, ← gfmul_assoc, hz, one_gfmul]

end Sys2Proof.Machine
end

section
/-! PROOFS of the family "field": O18 and O19. -/

namespace Sys2Proof.Proofs

open Sys2Proof.Machine Sys2Proof.Claims

/-- Settles O18: the reduced product is the field product, zero extended. -/
theorem gfmulIsTheReducedProduct : Obligations.GfmulIsTheReducedProduct := by
  unfold Obligations.GfmulIsTheReducedProduct
  intro x y
  rw [polyReduce_polyProduct]
  refine ⟨by simp, ?_⟩
  rw [BitVec.toNat_setWidth_of_le (by decide)]
  exact (gfmul x y).isLt

/-- Settles O19: the laws of the product, and the order of α. -/
theorem fieldLaws : Obligations.FieldLaws := by
  unfold Obligations.FieldLaws
  exact ⟨gfmul_comm, gfmul_zero, gfmul_one, gfmul_assoc, gfmul_xor,
    fun _ hx => exists_unique_inverse hx, alphaPow_255, fun _ hx => exists_alphaPow_eq hx,
    fun _ _ hi hj h => alphaPow_injOn hi hj h, by decide⟩

end Sys2Proof.Proofs
end

section
/-! PROOFS of the family "field". Data polynomials and their values (R205), the divisor as a product of
linear factors (R209), and the codeword that data and its remainder make (R214, R216). -/

namespace Sys2Proof.Machine

open Sys2Proof.Claims

/-! ### Values of data polynomials (R205) -/

@[simp] theorem fieldPower_zero (x : Byte) : fieldPower x 0 = 1#8 := rfl

theorem fieldPower_succ (x : Byte) (n : Nat) : fieldPower x (n + 1) = gfmul (fieldPower x n) x := rfl

@[simp] theorem polyEval_nil (x : Byte) : polyEval [] x = 0#8 := rfl

/-- One more coefficient below the others: a step of Horner's rule. -/
theorem polyEval_snoc (b : List Byte) (c x : Byte) :
    polyEval (b ++ [c]) x = gfmul (polyEval b x) x ^^^ c := List.foldl_concat ..

@[simp] theorem polyEval_singleton (c x : Byte) : polyEval [c] x = c := by
  simpa using polyEval_snoc [] c x

theorem polyEval_append (a b : List Byte) (x : Byte) :
    polyEval (a ++ b) x = gfmul (polyEval a x) (fieldPower x b.length) ^^^ polyEval b x := by
  induction b using List.reverseRecOn with
  | nil => simp
  | append_singleton b c ih =>
    rw [← List.append_assoc, polyEval_snoc, ih, polyEval_snoc, List.length_append,
      List.length_singleton, fieldPower_succ, xor_gfmul, gfmul_assoc, BitVec.xor_assoc]

/-- The first coefficient is that of the highest power. -/
theorem polyEval_cons (c : Byte) (b : List Byte) (x : Byte) :
    polyEval (c :: b) x = gfmul c (fieldPower x b.length) ^^^ polyEval b x := by
  rw [← List.singleton_append, polyEval_append, polyEval_singleton]

/-- Leading zeros do not count. -/
theorem polyEval_replicate_zero (n : Nat) (x : Byte) : polyEval (List.replicate n 0#8) x = 0#8 := by
  induction n with
  | zero => rfl
  | succ n ih => simp [List.replicate_succ, polyEval_cons, ih]

/-- Horner's rule gives the sum of the terms (R205). -/
theorem polyEval_eq_fieldSum (b : List Byte) (x : Byte) : polyEval b x =
    fieldSum ((List.range b.length).map fun j =>
      gfmul (b.getD j 0) (fieldPower x (b.length - 1 - j))) := by
  induction b with
  | nil => rfl
  | cons c b ih =>
    rw [polyEval_cons, ih, List.length_cons, List.range_succ_eq_map, List.map_cons, List.map_map]
    simp [fieldSum, Function.comp_def, Nat.sub_sub, Nat.add_comm]

/-- Shifting the coefficients up by one multiplies by `x`, less the term that falls off the top. -/
theorem polyEval_tail_snoc_zero (r : List Byte) (x : Byte) :
    polyEval (r.tail ++ [0]) x =
      gfmul (r.headD 0) (fieldPower x r.length) ^^^ gfmul (polyEval r x) x := by
  cases r with
  | nil => simp
  | cons a s =>
    have hvalue : gfmul (polyEval (a :: s) x) x =
        gfmul a (fieldPower x (s.length + 1)) ^^^ gfmul (polyEval s x) x := by
      rw [polyEval_cons, xor_gfmul, gfmul_assoc, fieldPower_succ]
    rw [hvalue, List.headD_cons, List.length_cons, xor_xor_cancel]
    simp [polyEval_snoc]

/-- The value of the sum of a polynomial and a multiple of another of the same length. -/
theorem polyEval_zipWith_xor_gfmul {as bs : List Byte} (h : as.length = bs.length) (f x : Byte) :
    polyEval (List.zipWith (fun a b => a ^^^ gfmul b f) as bs) x =
      polyEval as x ^^^ gfmul (polyEval bs x) f := by
  induction as generalizing bs with
  | nil => simp [List.length_eq_zero_iff.mp h.symm]
  | cons a as ih =>
    obtain _ | ⟨b, bs⟩ := bs
    · simp at h
    have htail : as.length = bs.length := by simpa using h
    rw [List.zipWith_cons_cons, polyEval_cons, ih htail, polyEval_cons, polyEval_cons,
      List.length_zipWith, htail, Nat.min_self, xor_gfmul, xor_gfmul, gfmul_assoc b f,
      gfmul_comm f, ← gfmul_assoc]
    ac_rfl

/-! ### The divisor (R209) -/

/-- The value at `x` of `(X + root) (X + root α) ... (X + root α^(k-1))`. -/
def linearFactors (x : Byte) : Nat → Byte → Byte
  | 0, _ => 1
  | k + 1, root => gfmul (x ^^^ root) (linearFactors x k (gfmul root gfAlpha))

@[simp] theorem linearFactors_zero (x root : Byte) : linearFactors x 0 root = 1#8 := rfl

theorem linearFactors_succ (x : Byte) (k : Nat) (root : Byte) : linearFactors x (k + 1) root =
    gfmul (x ^^^ root) (linearFactors x k (gfmul root gfAlpha)) := rfl

/-- Each `root α^i` is a zero of its factor. -/
theorem linearFactors_eq_zero {k i : Nat} (hi : i < k) (root : Byte) :
    linearFactors (gfmul root (alphaPow i)) k root = 0#8 := by
  induction k generalizing i root with
  | zero => omega
  | succ k ih =>
    cases i with
    | zero => simp [linearFactors_succ]
    | succ i =>
      have hroot : gfmul root (alphaPow (i + 1)) = gfmul (gfmul root gfAlpha) (alphaPow i) := by
        rw [alphaPow_succ, gfmul_comm (alphaPow i), gfmul_assoc]
      rw [linearFactors_succ, hroot, ih (by omega), gfmul_zero]

/-- While leading zeros are left, a pass uses one up for the new coefficient. -/
theorem divisorPass_leading_zeros (root : Byte) (m : Nat) (q : List Byte) :
    divisorPass root (List.replicate (m + 1) 0 ++ 1 :: q) =
      List.replicate m 0 ++ 1 :: divisorPass root (1 :: q) := by
  induction m with
  | zero => simp [divisorPass]
  | succ m ih =>
    have hpass (r : List Byte) : divisorPass root (0 :: 0 :: r) = 0 :: divisorPass root (0 :: r) := by
      simp [divisorPass]
    rw [List.replicate_succ, List.replicate_succ, List.cons_append, List.cons_append, hpass,
      ← List.cons_append, ← List.replicate_succ, ih]
    rfl

/-- A pass multiplies the monic polynomial with lower coefficients `q` by `X + root`. -/
theorem polyEval_one_cons_divisorPass (root : Byte) (q : List Byte) (x : Byte) :
    polyEval (1 :: divisorPass root (1 :: q)) x = gfmul (x ^^^ root) (polyEval (1 :: q) x) := by
  have hpass : divisorPass root (1 :: q) =
      List.zipWith (fun b a => b ^^^ gfmul a root) ((1 :: q).tail ++ [0]) (1 :: q) := by
    rw [divisorPass, List.zipWith_comm]
    simp only [BitVec.xor_comm]
  have hvalue : polyEval (divisorPass root (1 :: q)) x = fieldPower x (q.length + 1) ^^^
      (gfmul (polyEval (1 :: q) x) x ^^^ gfmul (polyEval (1 :: q) x) root) := by
    rw [hpass, polyEval_zipWith_xor_gfmul (by simp), polyEval_tail_snoc_zero, BitVec.xor_assoc]
    simp
  have hlength : (divisorPass root (1 :: q)).length = q.length + 1 :=
    divisorPass_length root (1 :: q) (by simp)
  rw [polyEval_cons, hlength, hvalue, gfmul_comm (x ^^^ root), gfmul_xor]
  simp

/-- From `m` leading zeros, `m + 1` passes multiply by as many linear factors; the last one drops the
leading 1, which the divisor leaves out. -/
theorem polyEval_one_cons_divisorLoop (m : Nat) (root : Byte) (q : List Byte) (x : Byte) :
    polyEval (1 :: divisorLoop (m + 1) root (List.replicate m 0 ++ 1 :: q)) x =
      gfmul (linearFactors x (m + 1) root) (polyEval (1 :: q) x) := by
  induction m generalizing root q with
  | zero =>
    rw [linearFactors_succ, linearFactors_zero, gfmul_one, ← polyEval_one_cons_divisorPass]
    rfl
  | succ m ih =>
    rw [divisorLoop, divisorPass_leading_zeros, ih, polyEval_one_cons_divisorPass,
      linearFactors_succ x (m + 1), gfmul_left_comm, gfmul_assoc]

/-- The divisor is the product of `X + α^i` for `i` below its degree (R209). -/
theorem polyEval_one_cons_divisor {d : Nat} (hd : 0 < d) (x : Byte) :
    polyEval (1 :: divisor d) x = linearFactors x d 1#8 := by
  obtain ⟨m, rfl⟩ := Nat.exists_eq_succ_of_ne_zero hd.ne'
  simpa [divisor] using polyEval_one_cons_divisorLoop m 1#8 [] x

theorem polyEval_one_cons_divisor_alphaPow {d i : Nat} (hi : i < d) :
    polyEval (1 :: divisor d) (alphaPow i) = 0#8 := by
  have hzero := linearFactors_eq_zero hi 1#8
  rwa [one_gfmul, ← polyEval_one_cons_divisor (by omega)] at hzero

/-! ### Remainders (R214) -/

theorem remainder_snoc (b p : List Byte) (c : Byte) :
    remainder (b ++ [c]) p = remainderStep p (remainder b p) c := List.foldl_concat ..

/-- One data byte `c`, wherever the divisor vanishes: the remainder so far times `x`, and `c` in the
place above the remainder. -/
theorem polyEval_remainderStep {p r : List Byte} {x : Byte} (hr : r.length = p.length)
    (hp : 0 < p.length) (hroot : polyEval (1 :: p) x = 0#8) (c : Byte) :
    polyEval (remainderStep p r c) x =
      gfmul (polyEval r x) x ^^^ gfmul c (fieldPower x p.length) := by
  have hlength : (r.tail ++ [0]).length = p.length := by simp; omega
  have hdivisor : polyEval p x = fieldPower x p.length := by
    rw [polyEval_cons] at hroot
    simpa using (BitVec.xor_eq_zero_iff.mp hroot).symm
  rw [remainderStep, polyEval_zipWith_xor_gfmul hlength, polyEval_tail_snoc_zero, hr, hdivisor,
    gfmul_xor, gfmul_comm _ c, gfmul_comm _ (r.headD 0), BitVec.xor_comm (gfmul c _),
    BitVec.xor_comm (gfmul (r.headD 0) _), BitVec.xor_assoc, xor_xor_cancel]

/-- Data followed by its remainder vanishes wherever the divisor does (R216). -/
theorem polyEval_append_remainder {p : List Byte} {x : Byte} (hp : 0 < p.length)
    (hroot : polyEval (1 :: p) x = 0#8) (b : List Byte) : polyEval (b ++ remainder b p) x = 0#8 := by
  induction b using List.reverseRecOn with
  | nil => exact polyEval_replicate_zero p.length x
  | append_singleton b c ih =>
    have hstep : polyEval (b ++ [c] ++ remainder (b ++ [c]) p) x =
        gfmul (polyEval (b ++ remainder b p) x) x := by
      rw [polyEval_append, remainder_length, polyEval_snoc, remainder_snoc,
        polyEval_remainderStep (remainder_length b p) hp hroot, polyEval_append b, remainder_length,
        xor_gfmul, xor_gfmul, gfmul_assoc _ x, gfmul_comm x, ← gfmul_assoc, BitVec.xor_assoc,
        BitVec.xor_comm (gfmul (polyEval (remainder b p) x) x), xor_xor_cancel]
    rw [hstep, ih, zero_gfmul]

end Sys2Proof.Machine
end

section
/-! PROOFS of the family "field": O23 and O25. -/

namespace Sys2Proof.Proofs

open Sys2Proof.Machine

/-- Settles O23: the divisor is the product of the linear factors of its roots. -/
theorem divisorHasItsRoots : Obligations.DivisorHasItsRoots := by
  unfold Obligations.DivisorHasItsRoots
  exact fun d hd _ => ⟨divisor_length hd, fun i hi => polyEval_one_cons_divisor_alphaPow hi⟩

/-- Settles O25: data followed by its remainder vanishes wherever the divisor does. -/
theorem remainderMakesACodeword : Obligations.RemainderMakesACodeword := by
  unfold Obligations.RemainderMakesACodeword
  intro b d hd _ i hi
  have hlength : 0 < (divisor d).length := (divisor_length hd).symm ▸ hd
  exact polyEval_append_remainder hlength (polyEval_one_cons_divisor_alphaPow hi) b

end Sys2Proof.Proofs
end

section
/-! PROOFS of the family "field". How a command with a known body ends, and what the field commands answer
(R201, R206, R210, R215, R219). -/

namespace Sys2Proof.Machine

open Sys2Proof.Claims

/-! ### How a command ends (R61, R500, R505) -/

section ends
variable {i : Instr} {s t : State}

theorem exec_of_ok (h : commandBody i s = .ok t) : exec i s = .next (completed t) := by
  rw [exec_eq_finish, h]
  rfl

theorem exec_of_raiseError {c : ErrorCode} (h : commandBody i s = raiseError c) :
    exec i s = .next (failed s c.code) := by
  rw [exec_eq_finish, h]
  rfl

theorem exec_of_fault {f : Fault} (h : commandBody i s = .error (.fault f)) :
    exec i s = .fault f := by
  rw [exec_eq_finish, h]
  rfl

/-- Of two checks that raise the same error, the first may hold or the rest may raise it. -/
theorem guard_of_or {p : Prop} [Decidable p] {c : ErrorCode} {b : Body}
    (h : p ∨ b = raiseError c) : (if p then raiseError c else b) = raiseError c := by
  by_cases hp : p
  · exact if_pos hp
  · exact (if_neg hp).trans (h.resolve_left hp)

end ends

/-! ### Operand checks -/

theorem leavesDbuf_iff {off len : Nat} : leavesDbuf off len = true ↔ 4096 < off + len := by
  rw [leavesDbuf, streamBufSize, decide_eq_true_iff]

theorem badDegree_iff {d : Nat} : badDegree d = true ↔ d < 1 ∨ 255 < d := by
  simp [badDegree]

/-! ### The DBUF data of POLYEVAL, RSREM and SYNDROME -/

section data
variable {s : State} {k : List Byte → Body}

/-- The part of a body that checks the range of its DBUF data and reads it. -/
def State.withData (s : State) (k : List Byte → Body) : Body :=
  if leavesDbuf s.opa.toNat s.opb.toNat then raiseError .range
  else withBytes (s.readBytes .dbuf s.opa.toNat s.opb.toNat) k

theorem commandBody_polyeval (s : State) : commandBody .polyeval s =
    if 255 < s.opc.toNat then raiseError .range
    else s.withData fun b => .ok { s with result := zextByte (polyEval b (s.opc.setWidth 8)) } := rfl

theorem commandBody_rsrem (s : State) : commandBody .rsrem s =
    if s.glen.toNat = 0 then raiseError .sequence
    else s.withData fun b => withBytes (s.readBytes .gpoly 0 s.glen.toNat) fun p =>
      .ok (s.writeBytes .rembuf 0 (remainder b p)) := rfl

theorem commandBody_syndrome (s : State) : commandBody .syndrome s =
    if badDegree s.opc.toNat then raiseError .range
    else s.withData fun b => .ok (s.writeBytes .rembuf 0 (syndromes b s.opc.toNat)) := rfl

theorem State.withData_of_leaves (h : 4096 < s.opa.toNat + s.opb.toNat) :
    s.withData k = raiseError .range := if_pos (leavesDbuf_iff.mpr h)

theorem State.withData_of_unwritten (hfit : s.opa.toNat + s.opb.toNat ≤ 4096)
    (h : ∃ j < s.opb.toNat, s.readByte .dbuf (s.opa.toNat + j) = none) :
    s.withData k = .error (.fault .unwrittenBufferByte) := by
  have hunread : s.readBytes .dbuf s.opa.toNat s.opb.toNat = none := State.readBytes_eq_none.mpr h
  rw [State.withData, if_neg (leavesDbuf_iff.not.mpr hfit.not_gt), hunread, withBytes_none]

theorem State.withData_of_holds {xs : List Byte} (hfit : s.opa.toNat + s.opb.toNat ≤ 4096)
    (hlen : xs.length = s.opb.toNat) (h : Holds s .dbuf s.opa.toNat xs) : s.withData k = k xs := by
  have hread : s.readBytes .dbuf s.opa.toNat s.opb.toNat = some xs :=
    State.readBytes_eq_some.mpr ⟨hlen, h⟩
  rw [State.withData, if_neg (leavesDbuf_iff.not.mpr hfit.not_gt), hread, withBytes_some]

end data

/-! ### Memory after a run of writes -/

theorem writtenAt_writeRun (s : State) (a : Nat) (xs : List Byte) :
    WrittenAt s (s.mem.writeRun a xs) a xs := by
  refine ⟨fun j hj => ?_, fun x hx => ?_⟩
  · rw [Memory.read_writeRun, dif_pos (by omega)]
    simp
  · rw [Memory.read_writeRun, dif_neg hx]

end Sys2Proof.Machine
end

section
/-! PROOFS of the family "field": O20, O21, O22, O24 and O26. -/

namespace Sys2Proof.Proofs

open Sys2Proof.Machine Sys2Proof.Claims

/-- Settles O20: the body has one check, of both operands. -/
theorem gfmulResult : Obligations.GfmulResult := by
  unfold Obligations.GfmulResult
  intro s
  refine ⟨fun ha hb => ?_,
    fun h => exec_of_raiseError (i := .gfmul) (c := .range) (if_pos h)⟩
  simp only [BitVec.ofNat_toNat]
  exact exec_of_ok (gfmulBody_eq_ok.mpr ⟨not_or.mpr ⟨ha.not_gt, hb.not_gt⟩, rfl⟩)

/-- Settles O21: the check of OPC, then the data; Horner's rule gives the sum of the terms. -/
theorem polyevalResult : Obligations.PolyevalResult := by
  unfold Obligations.PolyevalResult
  intro s
  have hbody := commandBody_polyeval s
  refine ⟨fun xs hlen hxs hx hfit => ?_, fun h => ?_, fun hx hfit h => ?_, polyEval_eq_fieldSum⟩
  · rw [if_neg hx.not_gt, State.withData_of_holds hfit hlen hxs] at hbody
    simp only [BitVec.ofNat_toNat]
    exact exec_of_ok hbody
  · rw [guard_of_or (h.imp_right State.withData_of_leaves)] at hbody
    exact exec_of_raiseError hbody
  · rw [if_neg hx.not_gt, State.withData_of_unwritten hfit h] at hbody
    exact exec_of_fault hbody

/-- Settles O22: the body has one check, of the degree. -/
theorem rsgenResult : Obligations.RsgenResult := by
  unfold Obligations.RsgenResult
  intro s
  refine ⟨fun hpos hmax => ⟨_, exec_of_ok (rsgenBody_eq_ok.mpr ⟨?_, rfl⟩), divisor_length hpos,
    writtenAt_writeRun s _ _⟩, fun h =>
    exec_of_raiseError (i := .rsgen) (c := .range) (if_pos (badDegree_iff.mpr h))⟩
  exact badDegree_iff.not.mpr (not_or.mpr ⟨hpos.not_gt, hmax.not_gt⟩)

/-- Settles O24: the check of GLEN, then the data, then the divisor. -/
theorem rsremResult : Obligations.RsremResult := by
  unfold Obligations.RsremResult
  intro s
  have hbody := commandBody_rsrem s
  refine ⟨fun xs p hlen hdeg hxs hp hpos hfit => ?_, fun h => ?_, fun hpos h => ?_,
    fun hpos hfit h => ?_⟩
  · have hread : s.readBytes .gpoly 0 s.glen.toNat = some p := State.readBytes_eq_some.mpr ⟨hdeg, hp⟩
    rw [if_neg (Nat.ne_of_gt hpos), State.withData_of_holds hfit hlen hxs, hread] at hbody
    exact ⟨_, exec_of_ok hbody, (remainder_length xs p).trans hdeg, writtenAt_writeRun s _ _⟩
  · exact exec_of_raiseError (hbody.trans (if_pos h))
  · rw [if_neg (Nat.ne_of_gt hpos), State.withData_of_leaves h] at hbody
    exact exec_of_raiseError hbody
  · rw [if_neg (Nat.ne_of_gt hpos), State.withData_of_unwritten hfit h] at hbody
    exact exec_of_fault hbody

/-- Settles O26: the check of OPC, then the data. -/
theorem syndromeResult : Obligations.SyndromeResult := by
  unfold Obligations.SyndromeResult
  intro s
  have hbody := commandBody_syndrome s
  have hcount (hpos : 1 ≤ s.opc.toNat) (hmax : s.opc.toNat ≤ 255) : ¬ badDegree s.opc.toNat = true :=
    badDegree_iff.not.mpr (not_or.mpr ⟨hpos.not_gt, hmax.not_gt⟩)
  refine ⟨fun xs hlen hxs hpos hmax hfit => ?_, fun h => ?_, fun hpos hmax hfit h => ?_⟩
  · rw [if_neg (hcount hpos hmax), State.withData_of_holds hfit hlen hxs] at hbody
    exact ⟨_, exec_of_ok hbody, writtenAt_writeRun s _ _⟩
  · rw [guard_of_or ((or_assoc.mpr h).imp badDegree_iff.mpr State.withData_of_leaves)] at hbody
    exact exec_of_raiseError hbody
  · rw [if_neg (hcount hpos hmax), State.withData_of_unwritten hfit h] at hbody
    exact exec_of_fault hbody

end Sys2Proof.Proofs
end

section
/-! PROOFS of the family "capacity". The table of R252 on the legal versions, and what follows for the counts
of R253. -/

namespace Sys2Proof.Machine

open Sys2Proof.Claims

/-! ### The table of R252 -/

theorem numBlocks_eq_blockTable (e : EccLevel) :
    ∀ v ≤ 40, 1 ≤ v → numBlocks qrTables v e = blockTable v e := by
  cases e <;> decide

theorem eccPerBlock_eq_eccTable (e : EccLevel) :
    ∀ v ≤ 40, 1 ≤ v → eccPerBlock qrTables v e = eccTable v e := by
  cases e <;> decide

theorem numBlocks_pos (e : EccLevel) : ∀ v ≤ 40, 1 ≤ v → 0 < numBlocks qrTables v e := by
  cases e <;> decide

theorem numBlocks_lt (e : EccLevel) : ∀ v ≤ 40, numBlocks qrTables v e < 2 ^ 8 := by
  cases e <;> decide

theorem eccPerBlock_lt (e : EccLevel) : ∀ v ≤ 40, eccPerBlock qrTables v e < 2 ^ 8 := by
  cases e <;> decide

theorem eccCodewords_le (e : EccLevel) :
    ∀ v ≤ 40, numBlocks qrTables v e * eccPerBlock qrTables v e ≤ rawCodewords v := by
  cases e <;> decide

theorem rawDataModules_bounds :
    ∀ v ≤ 40, 1 ≤ v → 208 ≤ rawDataModules v ∧ rawDataModules v ≤ 29648 := by
  decide

theorem rawCodewords_lt {v : Nat} (hpos : 1 ≤ v) (hmax : v ≤ 40) : rawCodewords v < 2 ^ 16 := by
  have hraw := (rawDataModules_bounds v hmax hpos).2
  unfold rawCodewords
  omega

/-! ### The counts of R253 -/

section counts
variable {T : QrTables} {v : Nat} {e : EccLevel}

theorem numShortBlocks_add_mod (hblocks : 0 < numBlocks T v e) :
    numShortBlocks T v e + rawCodewords v % numBlocks T v e = numBlocks T v e :=
  Nat.sub_add_cancel (Nat.mod_lt _ hblocks).le

theorem dataCapacity_add (hecc : numBlocks T v e * eccPerBlock T v e ≤ rawCodewords v) :
    dataCapacity T v e + numBlocks T v e * eccPerBlock T v e = rawCodewords v :=
  Nat.sub_add_cancel hecc

theorem shortDataLen_add (hblocks : 0 < numBlocks T v e)
    (hecc : numBlocks T v e * eccPerBlock T v e ≤ rawCodewords v) :
    shortDataLen T v e + eccPerBlock T v e = shortBlockLen T v e :=
  Nat.sub_add_cancel ((Nat.le_div_iff_mul_le hblocks).mpr (Nat.mul_comm .. ▸ hecc))

/-- The capacity block by block: `sd` codewords in each, one more in each long block (R260). -/
theorem dataCapacity_eq (hblocks : 0 < numBlocks T v e)
    (hecc : numBlocks T v e * eccPerBlock T v e ≤ rawCodewords v) :
    dataCapacity T v e =
      numBlocks T v e * shortDataLen T v e + (numBlocks T v e - numShortBlocks T v e) := by
  have hdata := dataCapacity_add hecc
  have hshort := numShortBlocks_add_mod hblocks
  have hdiv : numBlocks T v e * shortBlockLen T v e + rawCodewords v % numBlocks T v e = rawCodewords v :=
    Nat.div_add_mod _ _
  rw [← shortDataLen_add hblocks hecc, Nat.mul_add] at hdiv
  omega

end counts

/-! ### The capacity registers (R64, R251): no count of a legal version is cut -/

section registers
variable (s : State) {v : Nat} (e : EccLevel) (hpos : 1 ≤ v) (hmax : v ≤ 40)

include hmax

theorem toNat_withCapacity_capblk : (s.withCapacity qrTables v e).capblk.toNat = numBlocks qrTables v e :=
  Nat.mod_eq_of_lt (numBlocks_lt e v hmax)

theorem toNat_withCapacity_capecc : (s.withCapacity qrTables v e).capecc.toNat = eccPerBlock qrTables v e :=
  Nat.mod_eq_of_lt (eccPerBlock_lt e v hmax)

theorem toNat_withCapacity_numShort :
    (s.withCapacity qrTables v e).capshort.numShort.toNat = numShortBlocks qrTables v e :=
  Nat.mod_eq_of_lt (((Nat.sub_le _ _).trans_lt (numBlocks_lt e v hmax)).trans (by decide))

include hpos

theorem toNat_withCapacity_capraw : (s.withCapacity qrTables v e).capraw.toNat = rawDataModules v :=
  Nat.mod_eq_of_lt ((rawDataModules_bounds v hmax hpos).2.trans_lt (by decide))

theorem toNat_withCapacity_capdata : (s.withCapacity qrTables v e).capdata.toNat = dataCapacity qrTables v e :=
  Nat.mod_eq_of_lt ((Nat.sub_le _ _).trans_lt (rawCodewords_lt hpos hmax))

theorem toNat_withCapacity_shortLen :
    (s.withCapacity qrTables v e).capshort.shortLen.toNat = shortBlockLen qrTables v e :=
  Nat.mod_eq_of_lt ((Nat.div_le_self _ _).trans_lt (rawCodewords_lt hpos hmax))

end registers

theorem legalVersion_eq_false {v : Nat} (h : v < 1 ∨ 40 < v) : legalVersion v = false := by
  rw [Bool.eq_false_iff, ne_eq, legalVersion_iff]
  omega

/-! ### The errors of INTERLEAVE in order, and its fault (R262) -/

section stops
variable {T : QrTables} {s : State}

theorem interleaveBody_of_illegal (h : legalVersion s.versionNat = false) :
    interleaveBody T s = raiseError .range := by
  simp [interleaveBody, h]

variable (hv : legalVersion s.versionNat = true)
include hv

theorem interleaveBody_of_over (h : dataCapacity T s.versionNat s.config.ecl < s.dlenNat) :
    interleaveBody T s = raiseError .capacity := by
  simp [interleaveBody, hv, h]

theorem interleaveBody_of_under (h : s.dlenNat < dataCapacity T s.versionNat s.config.ecl) :
    interleaveBody T s = raiseError .invariant := by
  simp [interleaveBody, hv, h, h.le]

theorem interleaveBody_of_unwritten (hlen : s.dlenNat = dataCapacity T s.versionNat s.config.ecl)
    (h : s.readBytes .dbuf 0 s.dlenNat = none) :
    interleaveBody T s = .error (.fault .unwrittenBufferByte) := by
  simp [interleaveBody, hv, h, ← hlen]

end stops

end Sys2Proof.Machine
end

section
/-! PROOFS of the family "capacity". Where the interleaver puts the bytes of its blocks (R260, R261, R264). -/

namespace Sys2Proof.Machine

/-! ### A list written in rows of one width -/

section rows
variable {α : Type} {f : Nat → List α} {w : Nat}

theorem length_flatMap_rows {n : Nat} (hf : ∀ i < n, (f i).length = w) :
    ((List.range n).flatMap f).length = n * w := by
  have hrow : (List.range n).map (fun i => (f i).length) = (List.range n).map fun _ => w :=
    List.map_congr_left fun i hi => hf i (List.mem_range.mp hi)
  rw [List.length_flatMap, hrow]
  simp

theorem getElem?_flatMap_rows {n i j : Nat} (hf : ∀ i < n, (f i).length = w) (hi : i < n) (hj : j < w) :
    ((List.range n).flatMap f)[i * w + j]? = (f i)[j]? := by
  obtain ⟨k, rfl⟩ := Nat.exists_eq_add_of_lt hi
  have hprev := length_flatMap_rows (n := i) fun k hk => hf k (hk.trans hi)
  rw [Nat.add_assoc, List.range_add, List.flatMap_append, List.getElem?_append_right (by omega), hprev,
    Nat.add_sub_cancel_left, List.range_succ_eq_map, List.map_cons, List.flatMap_cons, Nat.add_zero,
    List.getElem?_append_left (by rw [hf i hi]; exact hj)]

end rows

/-- A chunk begins where the chunks before it end. -/
theorem getElem?_splitChunks (ns : List Nat) (data : List Byte) (j : Nat) :
    (splitChunks ns data)[j]? = ns[j]?.map fun n => (data.drop (ns.take j).sum).take n := by
  induction ns generalizing data j with
  | nil => simp [splitChunks]
  | cons n ns ih =>
    cases j with
    | zero => simp [splitChunks]
    | succ j => simp [splitChunks, ih, List.drop_drop]

section interleaver
variable (T : QrTables) (v : Nat) (e : EccLevel)

/-! ### The data chunk of each block (R260) -/

/-- The data index at which block `j` begins: a short block's codewords for each block before it, and one
more for each long one. -/
def blockStart (j : Nat) : Nat := j * shortDataLen T v e + (j - numShortBlocks T v e)

/-- The data codewords of block `j`. -/
def blockData (data : List Byte) (j : Nat) : List Byte :=
  (data.drop (blockStart T v e j)).take (chunkLen T v e j)

theorem blockStart_succ (j : Nat) : blockStart T v e (j + 1) = blockStart T v e j + chunkLen T v e j := by
  unfold blockStart chunkLen
  rw [Nat.succ_mul]
  split <;> omega

theorem sum_chunkLen (j : Nat) : ((List.range j).map (chunkLen T v e)).sum = blockStart T v e j := by
  induction j with
  | zero => simp [blockStart]
  | succ j ih => rw [List.range_succ, List.map_append, List.sum_append, ih, blockStart_succ]; simp

theorem blockStart_mono : Monotone (blockStart T v e) :=
  monotone_nat_of_le_succ fun j => by rw [blockStart_succ]; exact Nat.le_add_right _ _

theorem getElem?_dataChunks (data : List Byte) {j : Nat} (hj : j < numBlocks T v e) :
    (dataChunks T v e data)[j]? = some (blockData T v e data j) := by
  have hbefore : (List.range (numBlocks T v e)).take j = List.range j := by
    rw [List.take_range, Nat.min_eq_left hj.le]
  rw [dataChunks, getElem?_splitChunks, ← List.map_take, hbefore, sum_chunkLen]
  simp [hj, blockData]

theorem getD_paddedBlocks (data : List Byte) {j : Nat} (hj : j < numBlocks T v e) :
    (paddedBlocks T v e data).getD j [] =
      paddedBlock T v e (divisor (eccPerBlock T v e)) j (blockData T v e data j) := by
  rw [List.getD_eq_getElem?_getD, paddedBlocks, List.getElem?_zipWith, List.getElem?_range hj,
    getElem?_dataChunks T v e data hj]
  rfl

/-! ### The rounds (R264) -/

variable (blks : List (List Byte))

/-- Every round but the placeholders' takes a byte of every block. -/
theorem interleaveRound_of_ne {i : Nat} (hi : i ≠ shortDataLen T v e) :
    interleaveRound T v e blks i =
      (List.range (numBlocks T v e)).map fun j => (blks.getD j []).getD i 0 := by
  simp [interleaveRound, hi, List.map_eq_flatMap]

/-- The placeholders' round takes a byte of every long block. -/
theorem interleaveRound_shortDataLen : interleaveRound T v e blks (shortDataLen T v e) =
    (List.range (numBlocks T v e - numShortBlocks T v e)).map fun j =>
      (blks.getD (numShortBlocks T v e + j) []).getD (shortDataLen T v e) 0 := by
  have hsplit : numBlocks T v e = numShortBlocks T v e + (numBlocks T v e - numShortBlocks T v e) :=
    (Nat.add_sub_cancel' (Nat.sub_le _ _)).symm
  have hshort : (List.range (numShortBlocks T v e)).flatMap (fun j =>
      if j < numShortBlocks T v e then [] else [(blks.getD j []).getD (shortDataLen T v e) 0]) = [] :=
    List.flatMap_eq_nil_iff.mpr fun j hj => if_pos (List.mem_range.mp hj)
  simp only [interleaveRound, true_and]
  rw [hsplit, List.range_add, List.flatMap_append, hshort, ← hsplit, List.flatMap_map]
  simp [List.map_eq_flatMap]

theorem length_interleaveRound_of_ne {i : Nat} (hi : i ≠ shortDataLen T v e) :
    (interleaveRound T v e blks i).length = numBlocks T v e := by
  rw [interleaveRound_of_ne T v e blks hi, List.length_map, List.length_range]

theorem length_interleaveRound_shortDataLen :
    (interleaveRound T v e blks (shortDataLen T v e)).length =
      numBlocks T v e - numShortBlocks T v e := by
  rw [interleaveRound_shortDataLen, List.length_map, List.length_range]

/-- The rounds that take a data codeword of every block. -/
def dataRounds : List Byte := (List.range (shortDataLen T v e)).flatMap (interleaveRound T v e blks)

/-- The rounds that take an ECC codeword of every block. -/
def eccRounds : List Byte := (List.range (eccPerBlock T v e)).flatMap fun i =>
  interleaveRound T v e blks (shortDataLen T v e + 1 + i)

/-- The stream is the data rounds, the placeholders' round, the ECC rounds. -/
theorem interleaveBlocks_eq (hblocks : 0 < numBlocks T v e)
    (hecc : numBlocks T v e * eccPerBlock T v e ≤ rawCodewords v) :
    interleaveBlocks T v e blks = dataRounds T v e blks ++
      (interleaveRound T v e blks (shortDataLen T v e) ++ eccRounds T v e blks) := by
  rw [interleaveBlocks, ← shortDataLen_add hblocks hecc, Nat.add_right_comm, List.range_add,
    List.range_succ]
  simp [dataRounds, eccRounds, List.flatMap_map]

theorem length_dataRounds :
    (dataRounds T v e blks).length = shortDataLen T v e * numBlocks T v e :=
  length_flatMap_rows fun _ hi => length_interleaveRound_of_ne T v e blks hi.ne

theorem length_eccRounds :
    (eccRounds T v e blks).length = eccPerBlock T v e * numBlocks T v e :=
  length_flatMap_rows fun i _ => length_interleaveRound_of_ne T v e blks (by omega)

theorem getElem?_dataRounds {i j : Nat} (hi : i < shortDataLen T v e) (hj : j < numBlocks T v e) :
    (dataRounds T v e blks)[i * numBlocks T v e + j]? = some ((blks.getD j []).getD i 0) := by
  rw [dataRounds, getElem?_flatMap_rows
    (fun _ h => length_interleaveRound_of_ne T v e blks h.ne) hi hj, interleaveRound_of_ne T v e blks hi.ne]
  simp [hj]

theorem getElem?_eccRounds {i j : Nat} (hi : i < eccPerBlock T v e) (hj : j < numBlocks T v e) :
    (eccRounds T v e blks)[i * numBlocks T v e + j]? =
      some ((blks.getD j []).getD (shortDataLen T v e + 1 + i) 0) := by
  have hround (k : Nat) : shortDataLen T v e + 1 + k ≠ shortDataLen T v e := by omega
  rw [eccRounds, getElem?_flatMap_rows
    (fun k _ => length_interleaveRound_of_ne T v e blks (hround k)) hi hj,
    interleaveRound_of_ne T v e blks (hround i)]
  simp [hj]

theorem getElem?_interleaveRound_shortDataLen {j : Nat} (hlong : numShortBlocks T v e ≤ j)
    (hj : j < numBlocks T v e) :
    (interleaveRound T v e blks (shortDataLen T v e))[j - numShortBlocks T v e]? =
      some ((blks.getD j []).getD (shortDataLen T v e) 0) := by
  rw [interleaveRound_shortDataLen, List.getElem?_map, List.getElem?_range (by omega), Option.map_some,
    Nat.add_sub_cancel' hlong]

end interleaver

section stream
variable {T : QrTables} {v : Nat} {e : EccLevel} (hblocks : 0 < numBlocks T v e)
  (hecc : numBlocks T v e * eccPerBlock T v e ≤ rawCodewords v)
include hblocks hecc

/-- Every codeword of R253 leaves the interleaver once (R263). -/
theorem length_interleaved (data : List Byte) : (interleaved T v e data).length = rawCodewords v := by
  have hdata := dataCapacity_add hecc
  have hcap := dataCapacity_eq hblocks hecc
  rw [interleaved, interleaveBlocks_eq T v e _ hblocks hecc, List.length_append, List.length_append,
    length_dataRounds, length_interleaveRound_shortDataLen, length_eccRounds,
    Nat.mul_comm (shortDataLen T v e), Nat.mul_comm (eccPerBlock T v e)]
  omega

variable {data : List Byte} (hdata : data.length = dataCapacity T v e)
include hdata

theorem length_blockData {j : Nat} (hj : j < numBlocks T v e) :
    (blockData T v e data j).length = chunkLen T v e j := by
  have hend : blockStart T v e (j + 1) ≤ blockStart T v e (numBlocks T v e) := blockStart_mono T v e hj
  have hall : blockStart T v e (numBlocks T v e) = data.length :=
    (hdata.trans (dataCapacity_eq hblocks hecc)).symm
  rw [blockStart_succ] at hend
  rw [blockData, List.length_take, List.length_drop]
  omega

/-- A padded block begins with its data. -/
theorem getElem?_data_of_block {i j : Nat} (hj : j < numBlocks T v e) (hi : i < chunkLen T v e j) :
    some (((paddedBlocks T v e data).getD j []).getD i 0) = data[blockStart T v e j + i]? := by
  have hlen := length_blockData hblocks hecc hdata hj
  have hchunk : (blockData T v e data j)[i]? = data[blockStart T v e j + i]? := by
    rw [blockData, List.getElem?_take_of_lt hi, List.getElem?_drop]
  rw [getD_paddedBlocks T v e data hj, paddedBlock, ← hchunk, List.append_assoc,
    List.getD_append _ _ _ _ (hlen ▸ hi), List.getElem?_eq_getElem (hlen ▸ hi),
    List.getD_eq_getElem _ _ (hlen ▸ hi)]

/-- A padded block ends with its ECC codewords, after the data and the placeholder of a short block. -/
theorem getElem?_remainder_of_block {i j : Nat} (hj : j < numBlocks T v e)
    (hi : i < eccPerBlock T v e) :
    some (((paddedBlocks T v e data).getD j []).getD (shortDataLen T v e + 1 + i) 0) =
      (remainder (blockData T v e data j) (divisor (eccPerBlock T v e)))[i]? := by
  have hlen := length_blockData hblocks hecc hdata hj
  have hpad : (blockData T v e data j ++ if j < numShortBlocks T v e then [0] else []).length =
      shortDataLen T v e + 1 := by
    rw [List.length_append, hlen, chunkLen]
    split <;> simp
  have hrem : i < (remainder (blockData T v e data j) (divisor (eccPerBlock T v e))).length := by
    rw [remainder_length, divisor_length (Nat.zero_lt_of_lt hi)]
    exact hi
  rw [getD_paddedBlocks T v e data hj, paddedBlock, List.getD_append_right _ _ _ _ (by omega), hpad,
    Nat.add_sub_cancel_left, List.getElem?_eq_getElem hrem, List.getD_eq_getElem _ _ hrem]

/-! ### Where each codeword of the stream comes from -/

theorem getElem?_interleaved_data {i j : Nat} (hi : i < shortDataLen T v e) (hj : j < numBlocks T v e) :
    (interleaved T v e data)[i * numBlocks T v e + j]? = data[blockStart T v e j + i]? := by
  have hround := getElem?_dataRounds T v e (paddedBlocks T v e data) hi hj
  have hin := (List.getElem?_eq_some_iff.mp hround).1
  rw [interleaved, interleaveBlocks_eq T v e _ hblocks hecc, List.getElem?_append_left hin, hround]
  exact getElem?_data_of_block hblocks hecc hdata hj (Nat.lt_add_right _ hi)

theorem getElem?_interleaved_long {j : Nat} (hlong : numShortBlocks T v e ≤ j) (hj : j < numBlocks T v e) :
    (interleaved T v e data)[shortDataLen T v e * numBlocks T v e + (j - numShortBlocks T v e)]? =
      data[blockStart T v e j + shortDataLen T v e]? := by
  have hchunk : shortDataLen T v e < chunkLen T v e j := by
    rw [chunkLen, if_neg hlong.not_gt]
    exact Nat.lt_succ_self _
  have hround := getElem?_interleaveRound_shortDataLen T v e (paddedBlocks T v e data) hlong hj
  have hin := (List.getElem?_eq_some_iff.mp hround).1
  rw [interleaved, interleaveBlocks_eq T v e _ hblocks hecc, ← length_dataRounds T v e,
    List.getElem?_append_right (Nat.le_add_right _ _), Nat.add_sub_cancel_left,
    List.getElem?_append_left hin, hround]
  exact getElem?_data_of_block hblocks hecc hdata hj hchunk

theorem getElem?_interleaved_ecc {i j : Nat} (hi : i < eccPerBlock T v e) (hj : j < numBlocks T v e) :
    (interleaved T v e data)[dataCapacity T v e + i * numBlocks T v e + j]? =
      (remainder (blockData T v e data j) (divisor (eccPerBlock T v e)))[i]? := by
  have hbefore : (dataRounds T v e (paddedBlocks T v e data) ++
      interleaveRound T v e (paddedBlocks T v e data) (shortDataLen T v e)).length =
      dataCapacity T v e := by
    rw [List.length_append, length_dataRounds, length_interleaveRound_shortDataLen,
      dataCapacity_eq hblocks hecc, Nat.mul_comm]
  rw [interleaved, interleaveBlocks_eq T v e _ hblocks hecc, ← List.append_assoc, Nat.add_assoc,
    List.getElem?_append_right (by omega), hbefore, Nat.add_sub_cancel_left,
    getElem?_eccRounds T v e _ hi hj]
  exact getElem?_remainder_of_block hblocks hecc hdata hj hi

end stream

end Sys2Proof.Machine
end

section
/-! PROOFS of the family "capacity": O27, O28, O29 and O30. -/

namespace Sys2Proof.Proofs

open Sys2Proof.Machine Sys2Proof.Claims

/-- Settles O27: every count of a legal version fits its field, so each register holds the count itself. -/
theorem capqResult : Obligations.CapqResult := by
  unfold Obligations.CapqResult
  intro s
  refine ⟨fun hpos hmax => ?_, fun h => exec_of_raiseError (i := .capq) (c := .range) ?_⟩
  · have hblk := toNat_withCapacity_capblk s s.config.ecl hmax
    have hecc := toNat_withCapacity_capecc s s.config.ecl hmax
    have hdata := dataCapacity_add (eccCodewords_le s.config.ecl _ hmax)
    have hshort := numShortBlocks_add_mod (numBlocks_pos s.config.ecl _ hmax hpos)
    rw [← toNat_withCapacity_capdata s s.config.ecl hpos hmax, ← hblk, ← hecc] at hdata
    rw [← toNat_withCapacity_numShort s s.config.ecl hmax, ← hblk] at hshort
    have hbody : capqBody qrTables s = .ok (s.withCapacity qrTables s.versionNat s.config.ecl) :=
      capqBody_eq_ok.mpr ⟨legalVersion_iff.mpr ⟨hpos, hmax⟩, rfl⟩
    exact ⟨_, exec_of_ok (i := .capq) hbody, rfl,
      hblk, hblk.trans (numBlocks_eq_blockTable s.config.ecl _ hmax hpos),
      hecc, hecc.trans (eccPerBlock_eq_eccTable s.config.ecl _ hmax hpos),
      toNat_withCapacity_capraw s s.config.ecl hpos hmax, hdata,
      (toNat_withCapacity_shortLen s s.config.ecl hpos hmax).trans (congrArg _ hblk.symm), hshort⟩
  · exact if_neg (Bool.eq_false_iff.mp (legalVersion_eq_false h))

/-- Settles O28: the checks in their order, then the data. -/
theorem interleaveResult : Obligations.InterleaveResult := by
  unfold Obligations.InterleaveResult
  rintro s _ _ rfl rfl
  have hlegal (hpos : 1 ≤ s.config.version.toNat) (hmax : s.config.version.toNat ≤ 40) :
      legalVersion s.versionNat = true := legalVersion_iff.mpr ⟨hpos, hmax⟩
  refine ⟨fun data hpos hmax hcap hlen hdata => ?_,
    fun h => exec_of_raiseError (i := .interleave) (interleaveBody_of_illegal (legalVersion_eq_false h)),
    fun hpos hmax h =>
      exec_of_raiseError (i := .interleave) (interleaveBody_of_over (hlegal hpos hmax) h),
    fun hpos hmax h =>
      exec_of_raiseError (i := .interleave) (interleaveBody_of_under (hlegal hpos hmax) h),
    fun hpos hmax hcap h => ?_⟩
  · have hread : s.readBytes .dbuf 0 s.dlenNat = some data := State.readBytes_eq_some.mpr ⟨hlen, hdata⟩
    exact ⟨_, exec_of_ok (i := .interleave) (interleaveBody_eq_ok.mpr
      ⟨hlegal hpos hmax, hcap.not_gt, hcap.not_lt, data, hread, rfl⟩), writtenAt_writeRun s _ _⟩
  · have hunread : s.readBytes .dbuf 0 s.dlenNat = none :=
      State.readBytes_eq_none.mpr (by simpa [State.dlenNat] using h)
    exact exec_of_fault (i := .interleave)
      (interleaveBody_of_unwritten (hlegal hpos hmax) hcap hunread)

/-- Settles O29: R255 row by row; the rounds add up to all codewords. -/
theorem capacityLaws : Obligations.CapacityLaws := by
  unfold Obligations.CapacityLaws
  intro v e hpos hmax
  exact ⟨rawDataModules_bounds v hmax hpos,
    fun data _ => length_interleaved (numBlocks_pos e v hmax hpos) (eccCodewords_le e v hmax) data⟩

/-- Settles O30: each clause is one kind of round. -/
theorem interleaveOrder : Obligations.InterleaveOrder := by
  unfold Obligations.InterleaveOrder
  rintro v e data _ _ _ _ hpos hmax hdata rfl rfl rfl rfl
  have hblocks := numBlocks_pos e v hmax hpos
  have hecc := eccCodewords_le e v hmax
  have hchunk (j : Nat) : chunkLen qrTables v e j =
      if j < numShortBlocks qrTables v e then shortDataLen qrTables v e
      else shortDataLen qrTables v e + 1 := by
    rw [chunkLen]
    split <;> rfl
  refine ⟨fun i j hi hj => getElem?_interleaved_data hblocks hecc hdata hi hj,
    fun j hlong hj => getElem?_interleaved_long hblocks hecc hdata hlong hj, fun i j hi hj => ?_⟩
  rw [getElem?_interleaved_ecc hblocks hecc hdata hi hj, blockData, hchunk]
  rfl

end Sys2Proof.Proofs
end

section
/-! PROOFS of the family "matrix". The stamp primitive module by module, and which modules each of the six
stamps asks for, with which tag (R302, R305, R308, R311, R314, R315, R317, R318, R321). -/

namespace Sys2Proof.Machine

open Sys2Proof.Claims

/-! ### A list of stamps (R302) -/

section stamps
variable {n : Nat} {g : Grid} {xs : List Stamp} {r c : Nat} {t : Tag}

theorem stampMany_append (n : Nat) (g : Grid) (xs ys : List Stamp) :
    stampMany n g (xs ++ ys) = stampMany n (stampMany n g xs) ys :=
  List.foldl_append

/-- Stamping leaves a module as it was, or makes a data module of the symbol what a request asks for. -/
theorem stampMany_read_cases (n : Nat) (g : Grid) (xs : List Stamp) (r c : Nat) :
    (stampMany n g xs).read r c = g.read r c ∨
      ∃ t, (g.read r c).fn = false ∧ (r < n ∧ c < n) ∧ ⟨r, c, t⟩ ∈ xs ∧
        (stampMany n g xs).read r c = { tag := t, fn := true } := by
  rw [stampMany_read]
  split
  case isTrue => exact .inl rfl
  case isFalse hfn =>
    split
    case h_1 => exact .inl rfl
    case h_2 x hfind =>
      have hx := List.find?_some hfind
      simp only [decide_eq_true_eq] at hx
      obtain ⟨rfl, rfl, hin⟩ := hx
      exact .inr ⟨x.t, by simpa using hfn, hin, List.mem_of_find?_eq_some hfind, rfl⟩

theorem stampMany_fn_of_fn (n : Nat) (xs : List Stamp) (h : (g.read r c).fn = true) :
    ((stampMany n g xs).read r c).fn = true := by
  rw [stampMany_read, if_pos h, h]

/-- After the stamps every module of the symbol they ask for is a function module. -/
theorem stampMany_fn_of_mem (g : Grid) (hx : ⟨r, c, t⟩ ∈ xs) (hr : r < n) (hc : c < n) :
    ((stampMany n g xs).read r c).fn = true := by
  rw [stampMany_read]
  split
  case isTrue hfn => exact hfn
  case isFalse =>
    split
    case h_1 hnone =>
      have := List.find?_eq_none.mp hnone _ hx
      simp [hr, hc] at this
    case h_2 => rfl

theorem stampMany_read_of_not_mem (n : Nat) (g : Grid) (h : ∀ t, ⟨r, c, t⟩ ∉ xs) :
    (stampMany n g xs).read r c = g.read r c := by
  obtain hsame | ⟨t, -, -, ht, -⟩ := stampMany_read_cases n g xs r c
  · exact hsame
  · exact absurd ht (h t)

/-- Where all requests for a module of the symbol ask for one tag, their order does not matter. -/
theorem stampMany_read_of_mem (g : Grid) (hx : ⟨r, c, t⟩ ∈ xs)
    (huniq : ∀ u, ⟨r, c, u⟩ ∈ xs → u = t) (hr : r < n) (hc : c < n) :
    (stampMany n g xs).read r c = stampedCell (g.read r c) (some t) := by
  have hfn := stampMany_fn_of_mem g hx hr hc
  obtain hsame | ⟨u, hdata, -, hu, hread⟩ := stampMany_read_cases n g xs r c
  · rw [hsame] at hfn ⊢
    simp [stampedCell, hfn]
  · simp [stampedCell, hread, huniq u hu, hdata]

/-- Stamps whose requests a region describes (R302). -/
theorem stampMany_read_of_region {region : Option Tag} (g : Grid)
    (hmem : ∀ t, ⟨r, c, t⟩ ∈ xs ↔ region = some t) (hout : ¬ (r < n ∧ c < n) → region = none) :
    (stampMany n g xs).read r c = stampedCell (g.read r c) region := by
  cases region with
  | none => exact stampMany_read_of_not_mem n g fun t ht => by simpa using (hmem t).mp ht
  | some t =>
    obtain ⟨hr, hc⟩ := not_not.mp (mt hout (Option.some_ne_none t))
    exact stampMany_read_of_mem g ((hmem t).mpr rfl)
      (fun u hu => (Option.some.inj ((hmem u).mp hu)).symm) hr hc

/-- Stamping the same requests again changes no module (R302). -/
theorem stampMany_stampMany_read (n : Nat) (g : Grid) (xs : List Stamp) (r c : Nat) :
    (stampMany n (stampMany n g xs) xs).read r c = (stampMany n g xs).read r c := by
  obtain hsame | ⟨t, hdata, ⟨hr, hc⟩, ht, -⟩ := stampMany_read_cases n (stampMany n g xs) xs r c
  · exact hsame
  · simp [stampMany_fn_of_mem g ht hr hc] at hdata

end stamps

/-! ### Which modules the stamps ask for -/

section requests
variable {n r c : Nat} {t : Tag}

/-- What a guarded region asks for. -/
theorem ite_some_eq_some {p : Prop} [Decidable p] {u : Tag} {o : Option Tag} :
    (if p then some u else o) = some t ↔ (p ∧ t = u) ∨ (¬ p ∧ o = some t) := by
  by_cases hp : p <;> simp [hp, eq_comm (b := t)]

theorem absDiff_eq_distance (a b : Nat) : absDiff a b = distance a b := by
  unfold absDiff distance
  omega

theorem mem_finderAt {r₀ c₀ : Nat} : ⟨r, c, t⟩ ∈ finderAt r₀ c₀ ↔
    (r₀ ≤ r ∧ r < r₀ + 7) ∧ (c₀ ≤ c ∧ c < c₀ + 7) ∧
      t = ringTag 2 (max (distance (r - r₀) 3) (distance (c - c₀) 3)) := by
  simp only [finderAt, finderTag, absDiff_eq_distance, ringTag, List.mem_flatMap, List.mem_map,
    List.mem_range, Stamp.mk.injEq]
  constructor
  · rintro ⟨dr, hdr, dc, hdc, rfl, rfl, rfl⟩
    rw [Nat.add_sub_cancel_left, Nat.add_sub_cancel_left]
    exact ⟨by omega, by omega, rfl⟩
  · rintro ⟨hr, hc, rfl⟩
    exact ⟨r - r₀, by omega, c - c₀, by omega, by omega, by omega, rfl⟩

/-- R305: the three finder patterns do not meet. -/
theorem mem_finderStamps (hn : 17 ≤ n) :
    ⟨r, c, t⟩ ∈ finderStamps n ↔ finderSpec n r c = some t := by
  simp only [finderStamps, List.mem_append, mem_finderAt, finderSpec, ite_some_eq_some, zero_le,
    true_and, zero_add, Nat.sub_zero, reduceCtorEq, and_false, or_false]
  grind

theorem mem_lightRow {r₀ c₀ : Nat} : ⟨r, c, t⟩ ∈ lightRow r₀ c₀ ↔
    r = r₀ ∧ (c₀ ≤ c ∧ c < c₀ + 8) ∧ t = .light := by
  simp only [lightRow, List.mem_map, List.mem_range, Stamp.mk.injEq]
  constructor
  · rintro ⟨i, hi, rfl, rfl, rfl⟩
    exact ⟨rfl, by omega, rfl⟩
  · rintro ⟨rfl, hc, rfl⟩
    exact ⟨c - c₀, by omega, rfl, by omega, rfl⟩

theorem mem_lightColumn {r₀ c₀ : Nat} : ⟨r, c, t⟩ ∈ lightColumn r₀ c₀ ↔
    (r₀ ≤ r ∧ r < r₀ + 8) ∧ c = c₀ ∧ t = .light := by
  simp only [lightColumn, List.mem_map, List.mem_range, Stamp.mk.injEq]
  constructor
  · rintro ⟨i, hi, rfl, rfl, rfl⟩
    exact ⟨by omega, rfl, rfl⟩
  · rintro ⟨hr, rfl, rfl⟩
    exact ⟨r - r₀, by omega, by omega, rfl, rfl⟩

/-- R308. -/
theorem mem_separatorStamps (hn : 17 ≤ n) :
    ⟨r, c, t⟩ ∈ separatorStamps n ↔ separatorSpec n r c = some t := by
  simp only [separatorStamps, List.mem_append, mem_lightRow, mem_lightColumn, separatorSpec,
    ite_some_eq_some, reduceCtorEq, and_false, or_false]
  grind

theorem mem_timingStamps_iff : ⟨r, c, t⟩ ∈ timingStamps n ↔
    (r = 6 ∧ c < n ∧ t = timingTag c) ∨ (c = 6 ∧ r < n ∧ t = timingTag r) := by
  simp only [timingStamps, List.mem_flatMap, List.mem_range, List.mem_cons, List.not_mem_nil,
    or_false, Stamp.mk.injEq]
  constructor
  · rintro ⟨i, hi, ⟨rfl, rfl, rfl⟩ | ⟨rfl, rfl, rfl⟩⟩
    · exact .inl ⟨rfl, hi, rfl⟩
    · exact .inr ⟨rfl, hi, rfl⟩
  · rintro (⟨rfl, hc, rfl⟩ | ⟨rfl, hr, rfl⟩)
    · exact ⟨c, hc, .inl ⟨rfl, rfl, rfl⟩⟩
    · exact ⟨r, hr, .inr ⟨rfl, rfl, rfl⟩⟩

/-- R311: both lines ask for Dark at `(6, 6)`. -/
theorem mem_timingStamps (hn : 17 ≤ n) :
    ⟨r, c, t⟩ ∈ timingStamps n ↔ timingSpec n r c = some t := by
  simp only [mem_timingStamps_iff, timingTag, timingSpec, ite_some_eq_some, reduceCtorEq, and_false,
    or_false]
  grind

/-! #### The format and version regions -/

theorem mem_formatStamps_iff : ⟨r, c, t⟩ ∈ formatStamps n ↔
    ((∃ i < 15, (r, c) = formatF1 i ∨ (r, c) = formatF2 n i) ∧ t = .reservedFormat) ∨
      ((r, c) = (n - 8, 8) ∧ t = .dark) := by
  simp only [formatStamps, stampAt, List.mem_append, List.mem_flatMap, List.mem_range,
    List.mem_cons, List.not_mem_nil, or_false, Stamp.mk.injEq, Prod.ext_iff]
  grind

theorem exists_formatF1_iff : (∃ i < 15, (r, c) = formatF1 i) ↔
    (c = 8 ∧ (r ≤ 5 ∨ r = 7 ∨ r = 8)) ∨ (r = 8 ∧ (c ≤ 5 ∨ c = 7)) := by
  unfold formatF1
  constructor
  · rintro ⟨i, hi, h⟩
    split_ifs at h <;> simp only [Prod.mk.injEq] at h <;> omega
  · rintro (⟨rfl, hr | rfl | rfl⟩ | ⟨rfl, hc | rfl⟩)
    · exact ⟨r, by omega, by simp [hr]⟩
    · exact ⟨6, by decide, rfl⟩
    · exact ⟨7, by decide, rfl⟩
    · exact ⟨14 - c, by omega, by split_ifs <;> simp only [Prod.mk.injEq, true_and] <;> omega⟩
    · exact ⟨8, by decide, rfl⟩

theorem exists_formatF2_iff (hn : 17 ≤ n) : (∃ i < 15, (r, c) = formatF2 n i) ↔
    (r = 8 ∧ n - 8 ≤ c ∧ c < n) ∨ (c = 8 ∧ n - 7 ≤ r ∧ r < n) := by
  unfold formatF2
  constructor
  · rintro ⟨i, hi, h⟩
    split_ifs at h <;> simp only [Prod.mk.injEq] at h <;> omega
  · rintro (⟨rfl, hc⟩ | ⟨rfl, hr⟩)
    · exact ⟨n - 1 - c, by omega, by rw [if_pos (by omega), Nat.sub_sub_self (by omega)]⟩
    · exact ⟨r + 15 - n, by omega, by rw [if_neg (by omega)]; congr 1; omega⟩

/-- The 30 format modules (R317). -/
theorem exists_formatModule_iff (hn : 17 ≤ n) :
    (∃ i < 15, (r, c) = formatF1 i ∨ (r, c) = formatF2 n i) ↔
      (c = 8 ∧ (r ≤ 5 ∨ r = 7 ∨ r = 8)) ∨ (r = 8 ∧ (c ≤ 5 ∨ c = 7)) ∨
        (r = 8 ∧ n - 8 ≤ c ∧ c < n) ∨ (c = 8 ∧ n - 7 ≤ r ∧ r < n) := by
  have hsplit : (∃ i < 15, (r, c) = formatF1 i ∨ (r, c) = formatF2 n i) ↔
      (∃ i < 15, (r, c) = formatF1 i) ∨ ∃ i < 15, (r, c) = formatF2 n i := by
    simp only [and_or_left, exists_or]
  rw [hsplit, exists_formatF1_iff, exists_formatF2_iff hn, or_assoc]

/-- R317, R318: the dark module is no format module. -/
theorem mem_formatStamps (hn : 17 ≤ n) :
    ⟨r, c, t⟩ ∈ formatStamps n ↔ formatSpec n r c = some t := by
  simp only [mem_formatStamps_iff, exists_formatModule_iff hn, Prod.mk.injEq, formatSpec,
    ite_some_eq_some, reduceCtorEq, and_false, or_false, and_assoc]
  refine or_congr_right ⟨fun hdark => ⟨?_, hdark⟩, And.right⟩
  omega

theorem exists_version_iff (hn : 17 ≤ n) :
    (∃ i < 18, (r, c) = versionVA n i ∨ (r, c) = versionVB n i) ↔
      (r ≤ 5 ∧ n - 11 ≤ c ∧ c ≤ n - 9) ∨ (n - 11 ≤ r ∧ r ≤ n - 9 ∧ c ≤ 5) := by
  simp only [versionVA, versionVB, Prod.mk.injEq]
  constructor
  · rintro ⟨i, hi, h⟩
    omega
  · rintro (h | h)
    · exact ⟨3 * r + (c - (n - 11)), by omega⟩
    · exact ⟨3 * c + (r - (n - 11)), by omega⟩

theorem mem_versionStamps_iff {v : Nat} : ⟨r, c, t⟩ ∈ versionStamps v n ↔
    7 ≤ v ∧ (∃ i < 18, (r, c) = versionVA n i ∨ (r, c) = versionVB n i) ∧
      t = .reservedVersion := by
  unfold versionStamps
  split
  case isTrue hv =>
    simp only [stampAt, List.mem_flatMap, List.mem_range, List.mem_cons, List.not_mem_nil, or_false,
      Stamp.mk.injEq, Prod.ext_iff, hv, true_and]
    grind
  case isFalse hv => simp [hv]

/-- R321. -/
theorem mem_versionStamps {v : Nat} (hn : 17 ≤ n) :
    ⟨r, c, t⟩ ∈ versionStamps v n ↔ versionSpec v n r c = some t := by
  simp only [mem_versionStamps_iff, exists_version_iff hn, versionSpec, ite_some_eq_some,
    reduceCtorEq, and_false, or_false, and_assoc]

/-! #### The alignment patterns -/

/-- The offsets of R315 count from -2. -/
theorem distance_offset {a : Nat} (ha : 2 ≤ a) (d : Nat) : distance (a + d - 2) a = distance d 2 := by
  unfold distance
  omega

theorem mem_alignmentAt {a b : Nat} (ha : 2 ≤ a) (hb : 2 ≤ b) : ⟨r, c, t⟩ ∈ alignmentAt a b ↔
    distance r a ≤ 2 ∧ distance c b ≤ 2 ∧
      t = ringTag 1 (max (distance r a) (distance c b)) := by
  simp only [alignmentAt, absDiff_eq_distance, ringTag, List.mem_flatMap, List.mem_map,
    List.mem_range, Stamp.mk.injEq]
  constructor
  · rintro ⟨dr, hdr, dc, hdc, rfl, rfl, rfl⟩
    have hnear {d : Nat} (hd : d < 5) : distance d 2 ≤ 2 := by
      unfold distance
      omega
    rw [distance_offset ha, distance_offset hb]
    exact ⟨hnear hdr, hnear hdc, rfl⟩
  · rintro ⟨hr, hc, rfl⟩
    have hrow : a + (r + 2 - a) - 2 = r := by unfold distance at hr; omega
    have hcol : b + (c + 2 - b) - 2 = c := by unfold distance at hc; omega
    have hdr : r + 2 - a < 5 := by unfold distance at hr; omega
    have hdc : c + 2 - b < 5 := by unfold distance at hc; omega
    refine ⟨r + 2 - a, hdr, c + 2 - b, hdc, hrow, hcol, ?_⟩
    rw [← distance_offset ha, ← distance_offset hb, hrow, hcol]

/-- A module is asked for by every pair of centres within two of it that is no finder corner (R315). -/
theorem mem_alignmentStamps {p : List Nat} (hp : ∀ a ∈ p, 2 ≤ a) :
    ⟨r, c, t⟩ ∈ alignmentStamps p ↔ ∃ a ∈ p, ∃ b ∈ p,
      isFinderCorner (p.headD 0) (p.getLastD 0) a b = false ∧ distance r a ≤ 2 ∧ distance c b ≤ 2 ∧
        t = ringTag 1 (max (distance r a) (distance c b)) := by
  simp only [alignmentStamps, List.mem_flatMap]
  refine exists_congr fun a => and_congr_right fun ha => exists_congr fun b =>
    and_congr_right fun hb => ?_
  cases isFinderCorner (p.headD 0) (p.getLastD 0) a b
  · simp [mem_alignmentAt (hp a ha) (hp b hb)]
  · simp

/-- The table of R314 on the legal versions. -/
theorem alignmentCentres_eq_alignmentTable :
    ∀ v ≤ 40, 1 ≤ v → alignmentCentres v = alignmentTable v := by
  decide

end requests

end Sys2Proof.Machine
end

section
/-! PROOFS of the family "matrix". The stage invariant: what it reads, the two kinds of grid update that keep
it, and O60's commands. -/

namespace Sys2Proof.Machine

/-! ### Tags that are a module's final value -/

/-- Light or Dark: no reservation, and not Unset (R14). -/
def Tag.LightDark (t : Tag) : Prop := t = .light ∨ t = .dark

theorem Tag.LightDark.ne_unset {t : Tag} (h : t.LightDark) : t ≠ .unset := by
  obtain rfl | rfl := h <;> simp

theorem Tag.LightDark.ne_reservedFormat {t : Tag} (h : t.LightDark) : t ≠ .reservedFormat := by
  obtain rfl | rfl := h <;> simp

theorem Tag.LightDark.ne_reservedVersion {t : Tag} (h : t.LightDark) : t ≠ .reservedVersion := by
  obtain rfl | rfl := h <;> simp

theorem Tag.lightDark_of_ne {t : Tag} (hunset : t ≠ .unset) (hfmt : t ≠ .reservedFormat)
    (hver : t ≠ .reservedVersion) : t.LightDark := by
  cases t <;> simp [Tag.LightDark] at hunset hfmt hver ⊢

theorem lightDark_bitTag (b : Bool) : (bitTag b).LightDark := by
  cases b <;> simp [bitTag, Tag.LightDark]

theorem lightDark_timingTag (i : Nat) : (timingTag i).LightDark := by
  unfold timingTag
  split <;> simp [Tag.LightDark]

open Sys2Proof.Claims in
theorem lightDark_ringTag (light d : Nat) : (ringTag light d).LightDark := by
  unfold ringTag
  split <;> simp [Tag.LightDark]

/-! ### Updates that keep the function bits: PLACE, masks, format and version words -/

/-- `g'` is `g` with some tags replaced by Light or Dark; function bits are as they were. -/
structure Grid.Retagged (g g' : Grid) : Prop where
  fn : ∀ r c, (g'.read r c).fn = (g.read r c).fn
  tag : ∀ r c, (g'.read r c).tag = (g.read r c).tag ∨ (g'.read r c).tag.LightDark

namespace Grid.Retagged
variable {g g' g'' : Grid} {r c : Nat}

theorem refl (g : Grid) : g.Retagged g := ⟨fun _ _ => rfl, fun _ _ => .inl rfl⟩

theorem trans (h : g.Retagged g') (h' : g'.Retagged g'') : g.Retagged g'' where
  fn r c := (h'.fn r c).trans (h.fn r c)
  tag r c := by
    obtain hsame | hnew := h'.tag r c
    · rw [hsame]
      exact h.tag r c
    · exact .inr hnew

theorem setTag (g : Grid) (r c : Nat) {t : Tag} (ht : t.LightDark) :
    g.Retagged (g.setTag r c t) := by
  constructor <;> intro r' c' <;> rw [Grid.read_setTag _ _ _ _ _ ht.ne_unset] <;> split
  case fn.isTrue hrc => rw [hrc.1, hrc.2]
  case fn.isFalse => rfl
  case tag.isTrue => exact .inr ht
  case tag.isFalse => exact .inl rfl

theorem lightDark (h : g.Retagged g') (hg : (g.read r c).tag.LightDark) :
    (g'.read r c).tag.LightDark := by
  obtain hsame | hnew := h.tag r c
  · exact hsame ▸ hg
  · exact hnew

theorem ne_unset (h : g.Retagged g') (hg : (g.read r c).tag ≠ .unset) :
    (g'.read r c).tag ≠ .unset := by
  obtain hsame | hnew := h.tag r c
  · exact hsame ▸ hg
  · exact hnew.ne_unset

/-- A tag that is not Light or Dark was there before. -/
theorem tag_of_not_lightDark (h : g.Retagged g') (hg : ¬ (g'.read r c).tag.LightDark) :
    (g.read r c).tag = (g'.read r c).tag := ((h.tag r c).resolve_right hg).symm

end Grid.Retagged

theorem retagged_maskGrid (T : QrTables) (k n : Nat) (g : Grid) : g.Retagged (maskGrid T k n g) := by
  constructor <;> intro r c <;> rw [maskGrid_read] <;> split
  case fn.isTrue | fn.isFalse => rfl
  case tag.isTrue =>
    refine .inr ?_
    dsimp only
    split <;> simp [Tag.LightDark]
  case tag.isFalse => exact .inl rfl

theorem retagged_placeBits (ps : List (Nat × Nat)) (bits : List Bool) (g : Grid) :
    g.Retagged (placeBits ps bits g) := by
  induction ps generalizing bits g with
  | nil => exact .refl g
  | cons p ps ih =>
    unfold placeBits
    split
    · split
      · exact (Grid.Retagged.setTag g _ _ (.inl rfl)).trans (ih _ _)
      · exact (Grid.Retagged.setTag g _ _ (lightDark_bitTag _)).trans (ih _ _)
    · exact ih _ _

/-- Bit `i` of a word written at two places, as FMTWRITE and VERWRITE do (R395, R400). -/
def writePair (p q : Nat → Nat × Nat) (w : Nat → Bool) (g : Grid) (i : Nat) : Grid :=
  (g.setTag (p i).1 (p i).2 (bitTag (w i))).setTag (q i).1 (q i).2 (bitTag (w i))

theorem writeFormat_eq_foldl (n : Nat) (w : BitVec 15) (g : Grid) : writeFormat n w g =
    (List.range 15).foldl (writePair formatF1 (formatF2 n) w.getLsbD) g := rfl

theorem writeVersion_eq_foldl {v : Nat} (hv : 7 ≤ v) (n : Nat) (g : Grid) : writeVersion v n g =
    (List.range 18).foldl (writePair (versionVA n) (versionVB n) (versionWord v).getLsbD) g :=
  if_pos hv

section pairs
variable {p q : Nat → Nat × Nat} {w : Nat → Bool} {l : List Nat} {r c : Nat}

theorem retagged_writePair (g : Grid) (i : Nat) : g.Retagged (writePair p q w g i) :=
  (Grid.Retagged.setTag g _ _ (lightDark_bitTag _)).trans
    (Grid.Retagged.setTag _ _ _ (lightDark_bitTag _))

theorem retagged_foldl_writePair (l : List Nat) (g : Grid) :
    g.Retagged (l.foldl (writePair p q w) g) :=
  List.foldlRecOn (motive := g.Retagged) l _ (.refl g) fun g' hg' i _ =>
    hg'.trans (retagged_writePair g' i)

theorem writePair_read_of_ne {i : Nat} (g : Grid) (hp : (r, c) ≠ p i) (hq : (r, c) ≠ q i) :
    (writePair p q w g i).read r c = g.read r c := by
  rw [writePair, Grid.read_setTag _ _ _ _ _ (bitTag_ne_unset _), if_neg (by simpa [Prod.ext_iff] using hq),
    Grid.read_setTag _ _ _ _ _ (bitTag_ne_unset _), if_neg (by simpa [Prod.ext_iff] using hp)]

theorem foldl_writePair_read_of_ne (g : Grid) (h : ∀ i ∈ l, (r, c) ≠ p i ∧ (r, c) ≠ q i) :
    (l.foldl (writePair p q w) g).read r c = g.read r c :=
  List.foldlRecOn (motive := fun g' : Grid => g'.read r c = g.read r c) l _ rfl fun g' hg' i hi =>
    (writePair_read_of_ne g' (h i hi).1 (h i hi).2).trans hg'

theorem lightDark_writePair {i : Nat} (g : Grid) (h : (r, c) = p i ∨ (r, c) = q i) :
    ((writePair p q w g i).read r c).tag.LightDark := by
  have hcell {x : Nat × Nat} (g : Grid) (hx : (r, c) = x) :
      ((g.setTag x.1 x.2 (bitTag (w i))).read r c).tag.LightDark := by
    subst hx
    rw [Grid.read_setTag _ _ _ _ _ (bitTag_ne_unset _), if_pos ⟨rfl, rfl⟩]
    exact lightDark_bitTag _
  obtain hp | hq := h
  · exact (Grid.Retagged.setTag _ _ _ (lightDark_bitTag _)).lightDark (hcell g hp)
  · exact hcell _ hq

theorem lightDark_foldl_writePair (g : Grid) (h : ∃ i ∈ l, (r, c) = p i ∨ (r, c) = q i) :
    ((l.foldl (writePair p q w) g).read r c).tag.LightDark := by
  induction l generalizing g with
  | nil => simp at h
  | cons j l ih =>
    obtain ⟨i, hi, hpq⟩ := h
    obtain rfl | hl := List.mem_cons.mp hi
    · exact (retagged_foldl_writePair l _).lightDark (lightDark_writePair g hpq)
    · exact ih _ ⟨i, hl, hpq⟩

end pairs

/-! ### PLACE leaves no module of the symbol Unset (R355) -/

/-- The pairs cover every column up to the first but the timing column (R350). -/
theorem exists_pairColumn {fuel right c : Nat} (heven : right % 2 = 0 → 6 ≤ right)
    (hfuel : right < 2 * fuel) (hc : c ≤ right) (hc6 : c ≠ 6) :
    ∃ x ∈ pairColumns fuel right, c = x ∨ c = x - 1 := by
  induction fuel generalizing right with
  | zero => omega
  | succ fuel ih =>
    have hpos : ¬ right < 1 := by omega
    simp only [pairColumns, if_neg hpos, List.mem_cons, exists_eq_or_imp]
    split
    case isTrue hsix =>
      by_cases hhere : c = 5 ∨ c = 5 - 1
      · exact .inl hhere
      · exact .inr (ih (by omega) (by omega) (by omega))
    case isFalse =>
      by_cases hhere : c = right ∨ c = right - 1
      · exact .inl hhere
      · exact .inr (ih (by omega) (by omega) (by omega))

theorem mem_pairOrder {n right r c : Nat} (hr : r < n) (hc : c = right ∨ c = right - 1) :
    (r, c) ∈ pairOrder n right := by
  simp only [pairOrder, List.mem_flatMap, List.mem_range, List.mem_cons, List.not_mem_nil, or_false,
    Prod.mk.injEq]
  refine ⟨if pairUpward right then n - 1 - r else r, by split <;> omega, ?_⟩
  have hrow : r = if pairUpward right then
      n - 1 - (if pairUpward right then n - 1 - r else r) else
      (if pairUpward right then n - 1 - r else r) := by
    split <;> omega
  exact hc.imp (⟨hrow, ·⟩) (⟨hrow, ·⟩)

/-- The placer visits every module of the symbol outside the timing column (R350). -/
theorem mem_visitOrder {n r c : Nat} (hn : 7 ≤ n) (hodd : n % 2 = 1) (hr : r < n) (hc : c < n)
    (hc6 : c ≠ 6) : (r, c) ∈ visitOrder n := by
  obtain ⟨x, hx, hcx⟩ := exists_pairColumn (fuel := n) (right := n - 1) (by omega) (by omega)
    (by omega : c ≤ n - 1) hc6
  exact List.mem_flatMap.mpr ⟨x, hx, mem_pairOrder hr hcx⟩

theorem placeBits_ne_unset {ps : List (Nat × Nat)} {r c : Nat} (bits : List Bool) (g : Grid)
    (h : (r, c) ∈ ps) : ((placeBits ps bits g).read r c).tag ≠ .unset := by
  induction ps generalizing bits g with
  | nil => simp at h
  | cons p ps ih =>
    obtain rfl | hps := List.mem_cons.mp h
    · have hset (g : Grid) {t : Tag} (ht : t ≠ .unset) : ((g.setTag r c t).read r c).tag ≠ .unset := by
        rwa [Grid.read_setTag _ _ _ _ _ ht, if_pos ⟨rfl, rfl⟩]
      unfold placeBits
      split
      · split
        · exact (retagged_placeBits ps _ _).ne_unset (hset g (by simp))
        · exact (retagged_placeBits ps _ _).ne_unset (hset g (bitTag_ne_unset _))
      · next htagged => exact (retagged_placeBits ps _ _).ne_unset htagged
    · unfold placeBits
      split
      · split <;> exact ih _ _ hps
      · exact ih _ _ hps

/-! ### What StageInv reads -/

section modules
variable {s t : State} {r c : Nat}

theorem State.gridSide_congr (h : t.gridstat.gver = s.gridstat.gver) : t.gridSide = s.gridSide :=
  congrArg (fun v : BitVec 6 => symbolSize v.toNat) h

theorem State.isFormatModule_congr (h : t.gridstat.gver = s.gridstat.gver) :
    t.isFormatModule r c ↔ s.isFormatModule r c := by
  unfold State.isFormatModule
  rw [State.gridSide_congr h]

theorem State.isVersionModule_congr (h : t.gridstat.gver = s.gridstat.gver) :
    t.isVersionModule r c ↔ s.isVersionModule r c := by
  unfold State.isVersionModule State.gverNat
  rw [State.gridSide_congr h, h]

theorem State.isFormatModule.within (h : s.isFormatModule r c) :
    r < s.gridSide ∧ c < s.gridSide := by
  obtain ⟨i, hi, hF1 | hF2⟩ := h
  · have hin := formatF1_within (i := i) s.gridSide_ge
    rwa [← hF1] at hin
  · have hin := formatF2_within s.gridSide_ge hi
    rwa [← hF2] at hin

theorem State.isVersionModule.within (h : s.isVersionModule r c) :
    r < s.gridSide ∧ c < s.gridSide := by
  obtain ⟨-, i, hi, hVA | hVB⟩ := h
  · have hin := versionVA_within s.gridSide_ge hi
    rwa [← hVA] at hin
  · have hin := versionVB_within s.gridSide_ge hi
    rwa [← hVB] at hin

end modules

/-! ### Stamps keep the stage invariant -/

/-- A request is Light or Dark, or a reservation of a module of its own region (R302, R317, R321). -/
def State.Permits (s : State) (x : Stamp) : Prop :=
  x.t.LightDark ∨ (x.t = .reservedFormat ∧ s.isFormatModule x.r x.c) ∨
    (x.t = .reservedVersion ∧ s.isVersionModule x.r x.c)

namespace State.Permits
variable {s : State} {x : Stamp} {r c : Nat}

theorem ne_unset (h : s.Permits x) : x.t ≠ .unset := by
  obtain ht | ⟨ht, -⟩ | ⟨ht, -⟩ := h
  · exact ht.ne_unset
  · simp [ht]
  · simp [ht]

theorem isFormatModule (h : s.Permits ⟨r, c, .reservedFormat⟩) : s.isFormatModule r c := by
  obtain ht | ⟨-, hrc⟩ | ⟨ht, -⟩ := h
  · exact absurd rfl ht.ne_reservedFormat
  · exact hrc
  · cases ht

theorem isVersionModule (h : s.Permits ⟨r, c, .reservedVersion⟩) : s.isVersionModule r c := by
  obtain ht | ⟨ht, -⟩ | ⟨-, hrc⟩ := h
  · exact absurd rfl ht.ne_reservedVersion
  · cases ht
  · exact hrc

end State.Permits

namespace State.StageInv
variable {s t : State}

/-- StageInv sees the grid and GRIDSTAT alone. -/
theorem congr (h : s.StageInv) (hg : t.grid = s.grid) (hgs : t.gridstat = s.gridstat) :
    t.StageInv := by
  cases s
  cases t
  obtain rfl : _ = _ := hg
  obtain rfl : _ = _ := hgs
  exact { h with }

/-- Without a module the flags of a fresh grid say nothing (R301). -/
theorem of_blank (hg : t.grid = []) (hgs : t.gridstat.sTiming = false ∧ t.gridstat.sFmt = false ∧
    t.gridstat.sVer = false ∧ t.gridstat.placed = false ∧ t.gridstat.final = false) :
    t.StageInv := by
  constructor <;> simp [hg, hgs, GridCell.blank]

section stamps
variable {xs : List Stamp} {r c : Nat}

/-- The two kinds of module after stamps that the stage permits. -/
theorem stamped_cases (hxs : ∀ x ∈ xs, s.Permits x) (r c : Nat) :
    (s.stamped xs).read r c = s.grid.read r c ∨ ∃ t, (s.grid.read r c).fn = false ∧
      s.Permits ⟨r, c, t⟩ ∧ (s.stamped xs).read r c = { tag := t, fn := true } := by
  obtain hsame | ⟨t, hdata, -, hx, hread⟩ := stampMany_read_cases s.gridSide s.grid xs r c
  · exact .inl hsame
  · exact .inr ⟨t, hdata, hxs _ hx, hread⟩

theorem fn_stamped (h : (s.grid.read r c).fn = true ∨
    (∃ t, ⟨r, c, t⟩ ∈ xs) ∧ r < s.gridSide ∧ c < s.gridSide) :
    ((s.stamped xs).read r c).fn = true := by
  obtain hfn | ⟨⟨t, hx⟩, hr, hc⟩ := h
  · exact stampMany_fn_of_fn _ xs hfn
  · exact stampMany_fn_of_mem _ hx hr hc

/-- A stamp command's grid and flags (R302, R303): a stage flag it sets is one its requests meet, and on a
final grid every reserved module is a function module already. -/
theorem setStamped (h : s.StageInv) {gs : GridStat} (hxs : ∀ x ∈ xs, s.Permits x)
    (hgver : gs.gver = s.gridstat.gver) (hplaced : gs.placed = s.gridstat.placed)
    (hfinal : gs.final = s.gridstat.final)
    (hreserved : s.gridstat.final = true → s.gridstat.sFmt = true ∧ s.gridstat.sVer = true)
    (htiming : gs.sTiming = true → s.gridstat.sTiming = true ∨
      ∀ i < s.gridSide, (∃ t, ⟨6, i, t⟩ ∈ xs) ∧ ∃ t, ⟨i, 6, t⟩ ∈ xs)
    (hfmt : gs.sFmt = true → s.gridstat.sFmt = true ∨
      ∀ r c, s.isFormatModule r c → ∃ t, ⟨r, c, t⟩ ∈ xs)
    (hver : gs.sVer = true → s.gridstat.sVer = true ∨
      ∀ r c, s.isVersionModule r c → ∃ t, ⟨r, c, t⟩ ∈ xs) :
    { s with grid := s.stamped xs, gridstat := gs }.StageInv := by
  have hside : { s with grid := s.stamped xs, gridstat := gs }.gridSide = s.gridSide :=
    State.gridSide_congr hgver
  have hformat {r c : Nat} := State.isFormatModule_congr (s := s) (r := r) (c := c)
    (t := { s with grid := s.stamped xs, gridstat := gs }) hgver
  have hversion {r c : Nat} := State.isVersionModule_congr (s := s) (r := r) (c := c)
    (t := { s with grid := s.stamped xs, gridstat := gs }) hgver
  have hcases := stamped_cases hxs
  constructor
  case functionTagged =>
    intro r c
    obtain hsame | ⟨t, -, ht, hread⟩ := hcases r c
    · exact hsame ▸ h.functionTagged r c
    · exact fun _ => hread ▸ ht.ne_unset
  case dataUnset =>
    intro hp r c hfn
    obtain hsame | ⟨t, -, -, hread⟩ := hcases r c
    · rw [hsame] at hfn ⊢
      exact h.dataUnset (hplaced ▸ hp) r c hfn
    · simp [hread] at hfn
  case timingStamped =>
    intro hflag i hi
    rw [hside] at hi
    have hsix : 6 < s.gridSide := Nat.lt_of_lt_of_le (by omega) s.gridSide_ge
    obtain hold | hnew := htiming hflag
    · have hline := h.timingStamped hold i hi
      exact ⟨fn_stamped (.inl hline.1), fn_stamped (.inl hline.2)⟩
    · have hline := hnew i hi
      exact ⟨fn_stamped (.inr ⟨hline.1, hsix, hi⟩), fn_stamped (.inr ⟨hline.2, hi, hsix⟩)⟩
  case formatStamped =>
    intro hflag r c hrc
    have hrc := hformat.mp hrc
    exact fn_stamped ((hfmt hflag).imp (h.formatStamped · r c hrc)
      fun hnew => ⟨hnew r c hrc, hrc.within⟩)
  case versionStamped =>
    intro hflag r c hrc
    have hrc := hversion.mp hrc
    exact fn_stamped ((hver hflag).imp (h.versionStamped · r c hrc)
      fun hnew => ⟨hnew r c hrc, hrc.within⟩)
  case reservedFormat =>
    intro r c (htag : ((s.stamped xs).read r c).tag = .reservedFormat)
    show _ ∧ ((s.stamped xs).read r c).fn = true
    rw [hformat]
    obtain hsame | ⟨t, -, ht, hread⟩ := hcases r c
    · rw [hsame] at htag ⊢
      exact h.reservedFormat r c htag
    · rw [hread] at htag ⊢
      obtain rfl : t = .reservedFormat := htag
      exact ⟨ht.isFormatModule, rfl⟩
  case reservedVersion =>
    intro r c (htag : ((s.stamped xs).read r c).tag = .reservedVersion)
    show _ ∧ ((s.stamped xs).read r c).fn = true
    rw [hversion]
    obtain hsame | ⟨t, -, ht, hread⟩ := hcases r c
    · rw [hsame] at htag ⊢
      exact h.reservedVersion r c htag
    · rw [hread] at htag ⊢
      obtain rfl : t = .reservedVersion := htag
      exact ⟨ht.isVersionModule, rfl⟩
  case placedComplete =>
    intro hp r c hr hc
    rw [hside] at hr hc
    obtain hsame | ⟨t, -, ht, hread⟩ := hcases r c
    · exact hsame ▸ h.placedComplete (hplaced ▸ hp) r c hr hc
    · exact hread ▸ ht.ne_unset
  case finalLightDark =>
    intro hf r c hr hc
    rw [hside] at hr hc
    have hwas : s.gridstat.final = true := hfinal ▸ hf
    obtain ⟨hsFmt, hsVer⟩ := hreserved hwas
    obtain hsame | ⟨t, hdata, ht, hread⟩ := hcases r c
    · exact hsame ▸ h.finalLightDark hwas r c hr hc
    · obtain ht | ⟨-, hrc⟩ | ⟨-, hrc⟩ := ht
      · exact hread ▸ ht
      · simp [h.formatStamped hsFmt r c hrc] at hdata
      · simp [h.versionStamped hsVer r c hrc] at hdata

end stamps

end State.StageInv

end Sys2Proof.Machine
end

section
/-! PROOFS of the family "matrix". O60: every command and every move of the environment keeps the stage
invariant. -/

namespace Sys2Proof.Machine

open Sys2Proof.Claims

/-! ### What the six stamps ask for is permitted -/

theorem lightDark_of_mem_finderStamps {n : Nat} {x : Stamp} (hx : x ∈ finderStamps n) :
    x.t.LightDark := by
  obtain ⟨r, c, t⟩ := x
  simp only [finderStamps, List.mem_append, mem_finderAt] at hx
  obtain (⟨-, -, rfl⟩ | ⟨-, -, rfl⟩) | ⟨-, -, rfl⟩ := hx <;> exact lightDark_ringTag _ _

theorem lightDark_of_mem_separatorStamps {n : Nat} {x : Stamp} (hx : x ∈ separatorStamps n) :
    x.t.LightDark := by
  obtain ⟨r, c, t⟩ := x
  simp only [separatorStamps, List.mem_append, mem_lightRow, mem_lightColumn] at hx
  obtain ((⟨-, -, ht⟩ | ⟨-, -, ht⟩) | ⟨-, -, ht⟩ | ⟨-, -, ht⟩) | ⟨-, -, ht⟩ | ⟨-, -, ht⟩ := hx <;>
    exact .inl ht

theorem lightDark_of_mem_timingStamps {n : Nat} {x : Stamp} (hx : x ∈ timingStamps n) :
    x.t.LightDark := by
  obtain ⟨r, c, t⟩ := x
  obtain ⟨-, -, rfl⟩ | ⟨-, -, rfl⟩ := mem_timingStamps_iff.mp hx <;> exact lightDark_timingTag _

theorem lightDark_of_mem_alignmentAt {a b : Nat} {x : Stamp} (hx : x ∈ alignmentAt a b) :
    x.t.LightDark := by
  simp only [alignmentAt, List.mem_flatMap, List.mem_map] at hx
  obtain ⟨dr, -, dc, -, rfl⟩ := hx
  dsimp only
  split <;> simp [Tag.LightDark]

theorem lightDark_of_mem_alignmentStamps {p : List Nat} {x : Stamp} (hx : x ∈ alignmentStamps p) :
    x.t.LightDark := by
  simp only [alignmentStamps, List.mem_flatMap] at hx
  obtain ⟨a, -, b, -, hx⟩ := hx
  split at hx
  · simp at hx
  · exact lightDark_of_mem_alignmentAt hx

theorem State.permits_of_mem_formatStamps {s : State} {x : Stamp} (hx : x ∈ formatStamps s.gridSide) :
    s.Permits x := by
  obtain ⟨r, c, t⟩ := x
  obtain ⟨hrc, rfl⟩ | ⟨-, rfl⟩ := mem_formatStamps_iff.mp hx
  · exact .inr (.inl ⟨rfl, hrc⟩)
  · exact .inl (.inr rfl)

theorem State.permits_of_mem_versionStamps {s : State} {x : Stamp}
    (hx : x ∈ versionStamps s.gverNat s.gridSide) : s.Permits x := by
  obtain ⟨r, c, t⟩ := x
  obtain ⟨hv, hrc, rfl⟩ := mem_versionStamps_iff.mp hx
  exact .inr (.inr ⟨rfl, hv, hrc⟩)

/-- Both reservations are done on a final grid (R303, R402): all the stamps need of BlockInv. -/
def State.FinalReserved (s : State) : Prop :=
  s.gridstat.final = true → s.gridstat.sFmt = true ∧ s.gridstat.sVer = true

theorem State.BlockInv.finalReserved {s : State} (hb : s.BlockInv) : s.FinalReserved := fun hfinal =>
  have hver := hb.placedAfterVer (hb.finalAfterPlaced hfinal)
  ⟨hb.verAfterFmt hver, hver⟩

namespace State.StageInv
variable {s t : State}

/-! ### The stamps (R302) -/

theorem doFinder (h : s.StageInv) (hres : s.FinalReserved) : s.doFinder.StageInv :=
  h.setStamped (fun _ hx => .inl (lightDark_of_mem_finderStamps hx)) rfl rfl rfl
    hres .inl .inl .inl

theorem doSep (h : s.StageInv) (hres : s.FinalReserved) : s.doSep.StageInv :=
  h.setStamped (fun _ hx => .inl (lightDark_of_mem_separatorStamps hx)) rfl rfl rfl
    hres .inl .inl .inl

theorem doTiming (h : s.StageInv) (hres : s.FinalReserved) : s.doTiming.StageInv :=
  h.setStamped (fun _ hx => .inl (lightDark_of_mem_timingStamps hx)) rfl rfl rfl
    hres
    (fun _ => .inr fun _ hi => ⟨⟨_, mem_timingStamps_iff.mpr (.inl ⟨rfl, hi, rfl⟩)⟩,
      _, mem_timingStamps_iff.mpr (.inr ⟨rfl, hi, rfl⟩)⟩) .inl .inl

theorem doAlign (h : s.StageInv) (hres : s.FinalReserved) (T : QrTables) : (s.doAlign T).StageInv :=
  h.setStamped (fun _ hx => .inl (lightDark_of_mem_alignmentStamps hx)) rfl rfl rfl
    hres .inl .inl .inl

theorem doReserveFmt (h : s.StageInv) (hres : s.FinalReserved) : s.doReserveFmt.StageInv :=
  h.setStamped (fun _ => State.permits_of_mem_formatStamps) rfl rfl rfl hres .inl
    (fun _ => .inr fun _ _ hrc => ⟨_, mem_formatStamps_iff.mpr (.inl ⟨hrc, rfl⟩)⟩) .inl

theorem doReserveVer (h : s.StageInv) (hres : s.FinalReserved) : s.doReserveVer.StageInv :=
  h.setStamped (fun _ => State.permits_of_mem_versionStamps) rfl rfl rfl hres .inl
    .inl (fun _ => .inr fun _ _ hrc => ⟨_, mem_versionStamps_iff.mpr ⟨hrc.1, hrc.2, rfl⟩⟩)

/-! ### The updates that keep the function bits -/

/-- A grid with some tags replaced by Light or Dark, under the same stamp flags. -/
theorem setRetagged (h : s.StageInv) {g : Grid} {gs : GridStat} (hg : s.grid.Retagged g)
    (hgver : gs.gver = s.gridstat.gver) (htiming : gs.sTiming = s.gridstat.sTiming)
    (hfmt : gs.sFmt = s.gridstat.sFmt) (hver : gs.sVer = s.gridstat.sVer)
    (hdata : gs.placed = false → ∀ r c, (s.grid.read r c).fn = false → (g.read r c).tag = .unset)
    (hplaced : gs.placed = true → ∀ r c, r < s.gridSide → c < s.gridSide →
      (g.read r c).tag ≠ .unset)
    (hfinal : gs.final = true → ∀ r c, r < s.gridSide → c < s.gridSide →
      (g.read r c).tag.LightDark) :
    { s with grid := g, gridstat := gs }.StageInv := by
  have hside : { s with grid := g, gridstat := gs }.gridSide = s.gridSide :=
    State.gridSide_congr hgver
  have hformat {r c : Nat} := State.isFormatModule_congr (s := s) (r := r) (c := c)
    (t := { s with grid := g, gridstat := gs }) hgver
  have hversion {r c : Nat} := State.isVersionModule_congr (s := s) (r := r) (c := c)
    (t := { s with grid := g, gridstat := gs }) hgver
  constructor
  case functionTagged =>
    intro r c hfn
    exact hg.ne_unset (h.functionTagged r c ((hg.fn r c).symm.trans hfn))
  case dataUnset => exact fun hp r c hfn => hdata hp r c ((hg.fn r c).symm.trans hfn)
  case timingStamped =>
    intro hflag i hi
    rw [hside] at hi
    have hline := h.timingStamped (htiming ▸ hflag) i hi
    exact ⟨(hg.fn 6 i).trans hline.1, (hg.fn i 6).trans hline.2⟩
  case formatStamped =>
    exact fun hflag r c hrc =>
      (hg.fn r c).trans (h.formatStamped (hfmt ▸ hflag) r c (hformat.mp hrc))
  case versionStamped =>
    exact fun hflag r c hrc =>
      (hg.fn r c).trans (h.versionStamped (hver ▸ hflag) r c (hversion.mp hrc))
  case reservedFormat =>
    intro r c (htag : (g.read r c).tag = .reservedFormat)
    have hold := (hg.tag_of_not_lightDark fun hld => hld.ne_reservedFormat htag).trans htag
    exact (h.reservedFormat r c hold).imp hformat.mpr (hg.fn r c).trans
  case reservedVersion =>
    intro r c (htag : (g.read r c).tag = .reservedVersion)
    have hold := (hg.tag_of_not_lightDark fun hld => hld.ne_reservedVersion htag).trans htag
    exact (h.reservedVersion r c hold).imp hversion.mpr (hg.fn r c).trans
  case placedComplete => exact fun hp r c hr hc => hplaced hp r c (hside ▸ hr) (hside ▸ hc)
  case finalLightDark => exact fun hf r c hr hc => hfinal hf r c (hside ▸ hr) (hside ▸ hc)

/-- Tags replaced on function modules only, GRIDSTAT as it was (R395, R400). -/
theorem setWritten (h : s.StageInv) {g : Grid} (hg : s.grid.Retagged g)
    (hdata : ∀ r c, (s.grid.read r c).fn = false → g.read r c = s.grid.read r c) :
    { s with grid := g }.StageInv :=
  h.setRetagged hg rfl rfl rfl rfl
    (fun hp r c hfn => hdata r c hfn ▸ h.dataUnset hp r c hfn)
    (fun hp r c hr hc => hg.ne_unset (h.placedComplete hp r c hr hc))
    (fun hf r c hr hc => hg.lightDark (h.finalLightDark hf r c hr hc))

end State.StageInv

theorem retagged_writeFormat (n : Nat) (w : BitVec 15) (g : Grid) :
    g.Retagged (writeFormat n w g) := by
  rw [writeFormat_eq_foldl]
  exact retagged_foldl_writePair _ g

theorem retagged_writeVersion (v n : Nat) (g : Grid) : g.Retagged (writeVersion v n g) := by
  by_cases hv : 7 ≤ v
  · rw [writeVersion_eq_foldl hv]
    exact retagged_foldl_writePair _ g
  · rw [writeVersion, if_neg hv]
    exact .refl g

theorem retagged_candidate (T : QrTables) (v : Nat) (e : EccLevel) (k : Nat) (g : Grid) :
    g.Retagged (candidate T v e k g) :=
  ((retagged_maskGrid T k (symbolSize v) g).trans (retagged_writeFormat _ _ _)).trans
    (retagged_writeVersion _ _ _)

/-- The grid of FINALIZE is the candidate of the selected mask (R382, R402). -/
theorem State.finalize_grid (s : State) (T : QrTables) (k : BitVec 3) :
    (((s.doMask T k).doFmtwrite k).doVerwrite).markFinal.grid =
      candidate T s.gverNat s.config.ecl k.toNat s.grid := by
  simp only [State.doMask, State.doFmtwrite, State.doVerwrite, State.markFinal, State.gridSide,
    State.gverNat, candidate]

section words
variable {s : State} {r c : Nat}

theorem State.writeFormat_read_of_not_isFormatModule (w : BitVec 15) (g : Grid) (h : ¬ s.isFormatModule r c) :
    (writeFormat s.gridSide w g).read r c = g.read r c := by
  rw [writeFormat_eq_foldl]
  exact foldl_writePair_read_of_ne g fun i hi =>
    not_or.mp fun hpq => h ⟨i, List.mem_range.mp hi, hpq⟩

theorem State.lightDark_writeFormat (w : BitVec 15) (g : Grid) (h : s.isFormatModule r c) :
    ((writeFormat s.gridSide w g).read r c).tag.LightDark := by
  obtain ⟨i, hi, hpq⟩ := h
  rw [writeFormat_eq_foldl]
  exact lightDark_foldl_writePair g ⟨i, List.mem_range.mpr hi, hpq⟩

theorem State.writeVersion_read_of_not_isVersionModule (g : Grid) (h : ¬ s.isVersionModule r c) :
    (writeVersion s.gverNat s.gridSide g).read r c = g.read r c := by
  by_cases hv : 7 ≤ s.gverNat
  · rw [writeVersion_eq_foldl hv]
    exact foldl_writePair_read_of_ne g fun i hi =>
      not_or.mp fun hpq => h ⟨hv, i, List.mem_range.mp hi, hpq⟩
  · rw [writeVersion, if_neg hv]

theorem State.lightDark_writeVersion (g : Grid) (h : s.isVersionModule r c) :
    ((writeVersion s.gverNat s.gridSide g).read r c).tag.LightDark := by
  obtain ⟨hv, i, hi, hpq⟩ := h
  rw [writeVersion_eq_foldl hv]
  exact lightDark_foldl_writePair g ⟨i, List.mem_range.mpr hi, hpq⟩

end words

namespace State.StageInv
variable {s t : State}

theorem doFmtwrite (h : s.StageInv) (hflag : s.gridstat.sFmt = true) (k : BitVec 3) :
    (s.doFmtwrite k).StageInv := by
  refine (h.setWritten (retagged_writeFormat s.gridSide (formatWord s.config.ecl k.toNat) s.grid)
    fun r c hfn => State.writeFormat_read_of_not_isFormatModule _ _ fun hrc => ?_).congr rfl rfl
  simp [h.formatStamped hflag r c hrc] at hfn

theorem doVerwrite (h : s.StageInv) (hflag : s.gridstat.sVer = true) : s.doVerwrite.StageInv := by
  refine (h.setWritten (retagged_writeVersion s.gverNat s.gridSide s.grid)
    fun r c hfn => State.writeVersion_read_of_not_isVersionModule _ fun hrc => ?_).congr rfl rfl
  simp [h.versionStamped hflag r c hrc] at hfn

/-- PLACE reaches every Unset module of the symbol: none stands in the timing column (R311, R355). -/
theorem after_placeBody (h : s.StageInv) (hb : s.BlockInv) (hbody : placeBody s = .ok t) :
    t.StageInv := by
  obtain ⟨hstamped, hnot, -, -, bytes, -, rfl⟩ := placeBody_eq_ok.mp hbody
  have hver := (GridStat.allStamped_iff.mp hstamped).2
  have htiming := hb.alignAfterTiming (hb.fmtAfterAlign (hb.verAfterFmt hver))
  have hg := retagged_placeBits (visitOrder s.gridSide) (streamBits bytes) s.grid
  refine h.setRetagged hg rfl rfl rfl rfl (by simp) (fun _ r c hr hc => ?_)
    fun hfinal => absurd (hb.finalAfterPlaced hfinal) hnot
  by_cases hc6 : c = 6
  · subst hc6
    exact hg.ne_unset (h.functionTagged r 6 (h.timingStamped htiming r hr).2)
  · have hodd : s.gridSide % 2 = 1 := by simp only [State.gridSide, symbolSize]; omega
    have hside := s.gridSide_ge
    exact placeBits_ne_unset _ _ (mem_visitOrder (by omega) hodd hr hc hc6)

theorem after_maskapplyBody {T : QrTables} {k : BitVec 3} (h : s.StageInv)
    (hbody : maskapplyBody T k s = .ok t) : t.StageInv := by
  obtain ⟨hready, rfl⟩ := staged_eq_ok.mp hbody
  obtain ⟨-, hplaced⟩ := GridStat.readyMask_iff.mp hready
  have hg := retagged_maskGrid T k.toNat s.gridSide s.grid
  exact h.setRetagged hg rfl rfl rfl rfl (by simp [hplaced])
    (fun hp r c hr hc => hg.ne_unset (h.placedComplete hp r c hr hc)) (by simp)

theorem after_selectBody {T : QrTables} (h : s.StageInv) (hbody : selectBody T s = .ok t) :
    t.StageInv := by
  obtain ⟨-, rfl⟩ := staged_eq_ok.mp hbody
  exact { h with }

/-- Once placed, the candidate's modules are Light or Dark: both words overwrite their reserved modules, and
no other module is reserved or Unset (R355, R382). -/
theorem lightDark_candidate (h : s.StageInv) (hplaced : s.gridstat.placed = true) (T : QrTables)
    (e : EccLevel) (k : Nat) {r c : Nat} (hr : r < s.gridSide) (hc : c < s.gridSide) :
    ((candidate T s.gverNat e k s.grid).read r c).tag.LightDark := by
  by_cases hver : s.isVersionModule r c
  · exact s.lightDark_writeVersion _ hver
  · have hkept : (candidate T s.gverNat e k s.grid).read r c =
        (writeFormat s.gridSide (formatWord e k) (maskGrid T k s.gridSide s.grid)).read r c :=
      s.writeVersion_read_of_not_isVersionModule _ hver
    rw [hkept]
    by_cases hfmt : s.isFormatModule r c
    · exact s.lightDark_writeFormat _ _ hfmt
    · rw [s.writeFormat_read_of_not_isFormatModule _ _ hfmt]
      refine (retagged_maskGrid T k s.gridSide s.grid).lightDark ?_
      exact Tag.lightDark_of_ne (h.placedComplete hplaced r c hr hc)
        (fun htag => hfmt (h.reservedFormat r c htag).1)
        (fun htag => hver (h.reservedVersion r c htag).1)

theorem after_finalizeBody {T : QrTables} (h : s.StageInv) (hbody : finalizeBody T s = .ok t) :
    t.StageInv := by
  obtain ⟨hready, rfl⟩ := staged_eq_ok.mp hbody
  have hplaced : s.gridstat.placed = true := by
    simp only [GridStat.readyFinalize, Bool.and_eq_true] at hready
    obtain ⟨⟨⟨-, hplaced⟩, -⟩, -⟩ := hready
    exact hplaced
  have hg := retagged_candidate T s.gverNat s.config.ecl s.masksel.toNat s.grid
  have hfinal := h.setRetagged (gs := { s.gridstat with final := true, sel := false }) hg rfl rfl rfl
    rfl (by simp [hplaced])
    (fun hp r c hr hc => hg.ne_unset (h.placedComplete hp r c hr hc))
    (fun _ r c hr hc => h.lightDark_candidate hplaced T _ _ hr hc)
  exact hfinal.congr (s.finalize_grid T s.masksel) rfl

theorem after_gridinitBody (hbody : gridinitBody s = .ok t) : t.StageInv := by
  obtain ⟨-, rfl⟩ := gridinitBody_eq_ok.mp hbody
  exact of_blank rfl ⟨rfl, rfl, rfl, rfl, rfl⟩

theorem doStampAll (h : s.StageInv) (hres : s.FinalReserved) (T : QrTables) :
    (s.doStampAll T).StageInv :=
  (((((h.doFinder hres).doSep hres).doTiming hres).doAlign hres T).doReserveFmt hres).doReserveVer
    fun hfinal => ⟨rfl, (hres hfinal).2⟩

theorem after_stampAllBody {T : QrTables} (h : s.StageInv) (hb : s.BlockInv)
    (hbody : stampAllBody T s = .ok t) : t.StageInv :=
  (staged_eq_ok.mp hbody).2 ▸ h.doStampAll hb.finalReserved T

theorem after_encodeBody (hb : s.BlockInv) (hbody : encodeBody qrTables s = .ok t) :
    t.StageInv := by
  obtain ⟨s₁, h₁, s₂, h₂, s₃, h₃, s₄, h₄, s₅, h₅, h₆⟩ := encodeBody_eq_ok.mp hbody
  have hinit := (hb.after_interleaveBody h₁).after_gridinitBody h₂
  have hstamped := (after_gridinitBody h₂).after_stampAllBody hinit h₃
  have hplaced := hstamped.after_placeBody (hinit.after_stampAllBody h₃) h₄
  exact (hplaced.after_selectBody h₅).after_finalizeBody h₆

theorem after_commandBody {i : Instr} (h : s.StageInv) (hb : s.BlockInv)
    (hbody : commandBody i s = .ok t) : t.StageInv := by
  have hframe := frame_commandBody hbody
  cases i with
  | gridinit => exact after_gridinitBody hbody
  | stampFinder => exact (staged_eq_ok.mp hbody).2 ▸ h.doFinder hb.finalReserved
  | stampSep => exact (staged_eq_ok.mp hbody).2 ▸ h.doSep hb.finalReserved
  | stampTiming => exact (staged_eq_ok.mp hbody).2 ▸ h.doTiming hb.finalReserved
  | stampAlign => exact (staged_eq_ok.mp hbody).2 ▸ h.doAlign hb.finalReserved _
  | reserveFmt => exact (staged_eq_ok.mp hbody).2 ▸ h.doReserveFmt hb.finalReserved
  | reserveVer => exact (staged_eq_ok.mp hbody).2 ▸ h.doReserveVer hb.finalReserved
  | stampAll => exact h.after_stampAllBody hb hbody
  | place => exact h.after_placeBody hb hbody
  | maskapply k => exact h.after_maskapplyBody hbody
  | select => exact h.after_selectBody hbody
  | fmtwrite k =>
    obtain ⟨hready, rfl⟩ := staged_eq_ok.mp hbody
    exact h.doFmtwrite (Bool.and_eq_true_iff.mp hready).2 k
  | verwrite =>
    obtain ⟨hready, rfl⟩ := staged_eq_ok.mp hbody
    exact h.doVerwrite (Bool.and_eq_true_iff.mp hready).2
  | finalize => exact h.after_finalizeBody hbody
  | encode => exact after_encodeBody hb hbody
  | nop | gfmul | polyeval | rsgen | rsrem | syndrome | capq | interleave | score | fmtenc
  | verenc =>
    exact h.congr (hframe .grid (by simp [outputs])) (hframe .gridstat (by simp [outputs]))

theorem after_exec {i : Instr} (h : s.StageInv) (hb : s.BlockInv) (he : exec i s = .next t) :
    t.StageInv := by
  obtain ⟨u, hbody, rfl⟩ | ⟨c, -, rfl⟩ := exec_eq_next he
  · exact (h.after_commandBody hb hbody).congr rfl rfl
  · exact h.congr rfl rfl

end State.StageInv

/-! ### What a step can do to the grid -/

section steps
variable {s t : State}

/-- A host write reaches no module and no bit of GRIDSTAT (R125). -/
theorem State.writeIdle_grid (s : State) (v : Word) (x : Target) :
    (s.writeIdle v x).grid = s.grid ∧ (s.writeIdle v x).gridstat = s.gridstat := by
  cases x with
  | grid r c => exact ⟨rfl, rfl⟩
  | buf b i =>
    unfold State.writeIdle
    dsimp only
    split <;> exact ⟨rfl, rfl⟩
  | reg r =>
    cases r with
    | status =>
      simp only [State.writeIdle, State.writeReg]
      split <;> exact ⟨rfl, rfl⟩
    | _ => exact ⟨rfl, rfl⟩

theorem busWrite_grid {width addr : Nat} {v : Word} (he : busWrite width addr v s = .next t) :
    t.grid = s.grid ∧ t.gridstat = s.gridstat := by
  unfold busWrite at he
  split at he
  · simp at he
  · obtain rfl := Host.Outcome.next.inj he
    split
    · exact ⟨rfl, rfl⟩
    · exact s.writeIdle_grid v _

theorem busRead_grid {width addr : Nat} (he : busRead width addr s = .next t) :
    t.grid = s.grid ∧ t.gridstat = s.gridstat := by
  unfold busRead at he
  split at he
  · simp at he
  · next x _ =>
    obtain rfl := Host.Outcome.next.inj he
    split
    · obtain ⟨w, d, hread⟩ := s.readBusy_frame x
      exact hread ▸ ⟨rfl, rfl⟩
    · obtain ⟨w, d, hread⟩ := s.readIdle_frame x
      exact hread ▸ ⟨rfl, rfl⟩

/-- The engine performs its command, or leaves the grid alone. -/
theorem engineTurn_grid (he : engineTurn exec s = .next t) :
    (t.grid = s.grid ∧ t.gridstat = s.gridstat) ∨ ∃ i, exec i s = .next t := by
  cases hengine : s.engine with
  | idle =>
    simp only [engineTurn, hengine, Host.Outcome.next.injEq] at he
    exact .inl (he ▸ ⟨rfl, rfl⟩)
  | busy w =>
    cases hdecode : decode w with
    | ok i => exact .inr ⟨i, (engineTurn_of_decode hengine hdecode).symm.trans he⟩
    | error e =>
      rw [engineTurn_of_illegal hengine hdecode, Host.Outcome.next.injEq] at he
      exact .inl (he ▸ ⟨rfl, rfl⟩)

/-- Only a command and reset write the grid or GRIDSTAT (R59, R69). -/
theorem step_grid (he : step s = .next t) : (t.grid = s.grid ∧ t.gridstat = s.gridstat) ∨
    (t.grid = [] ∧ t.gridstat = GridStat.reset) ∨
    ∃ i rest, exec i { s with inputs := rest } = .next t := by
  have hengine (rest : List Move) (he : engineTurn exec { s with inputs := rest } = .next t) :
      (t.grid = s.grid ∧ t.gridstat = s.gridstat) ∨ (t.grid = [] ∧ t.gridstat = GridStat.reset) ∨
        ∃ i rest, exec i { s with inputs := rest } = .next t :=
    (engineTurn_grid he).imp_right fun ⟨i, hi⟩ => .inr ⟨i, rest, hi⟩
  cases hmoves : s.inputs with
  | nil => exact hengine s.inputs (step_of_noMove hmoves ▸ he)
  | cons m rest =>
    rw [step_of_move hmoves] at he
    cases m with
    | write width addr v => exact .inl (busWrite_grid (s := { s with inputs := rest }) he)
    | read width addr => exact .inl (busRead_grid (s := { s with inputs := rest }) he)
    | engine => exact hengine rest he
    | wait =>
      simp only [moveTurn, pollTurn] at he
      split at he
      · exact hengine s.inputs he
      · exact .inl (Host.Outcome.next.inj he ▸ ⟨rfl, rfl⟩)
    | reset => exact .inr (.inl (Host.Outcome.next.inj he ▸ ⟨rfl, rfl⟩))

end steps

theorem State.StageInv.after_step {s t : State} (h : s.StageInv) (hb : s.BlockInv)
    (he : step s = .next t) : t.StageInv := by
  obtain ⟨hg, hgs⟩ | ⟨hg, hgs⟩ | ⟨i, rest, hi⟩ := step_grid he
  · exact h.congr hg hgs
  · exact .of_blank hg (hgs ▸ ⟨rfl, rfl, rfl, rfl, rfl⟩)
  · have hstage : { s with inputs := rest }.StageInv := h.congr rfl rfl
    exact hstage.after_exec (hb.congr rfl) hi

end Sys2Proof.Machine

namespace Sys2Proof.Proofs

open Sys2Proof.Machine

/-- Settles O60: the grid changes by commands and reset alone; a command stamps what its stage permits, or
replaces tags by Light and Dark. -/
theorem everyStepKeepsStageInv : Obligations.EveryStepKeepsStageInv := by
  unfold Obligations.EveryStepKeepsStageInv
  exact fun s t hb h he => h.after_step hb he

end Sys2Proof.Proofs
end

section
/-! PROOFS of the family "matrix". How the stamp commands answer: their regions, the alignment table (R314),
and STAMP_ALL as the six commands in order (R325). -/

namespace Sys2Proof.Machine

open Sys2Proof.Claims

/-! ### Stamp commands as regions (R302, R303) -/

theorem symbolSize_ge (v : Nat) : 17 ≤ symbolSize v := by
  unfold symbolSize
  omega

theorem State.gridSide_ge_17 (s : State) : 17 ≤ s.gridSide := symbolSize_ge _

/-- A stamp command whose requests are a region of the symbol. -/
theorem stampCommand_of_requests {i : Instr} {ready : GridStat → Bool} {mark : GridStat → GridStat}
    {region : State → Nat → Nat → Option Tag} {xs : State → List Stamp}
    (hbody : ∀ s, commandBody i s = staged (ready s.gridstat)
      { s with grid := s.stamped (xs s), gridstat := mark s.gridstat })
    (hxs : ∀ s r c t, ⟨r, c, t⟩ ∈ xs s ↔ region s r c = some t)
    (hout : ∀ s r c, ¬ (r < s.gridSide ∧ c < s.gridSide) → region s r c = none) :
    StampCommand i ready mark region := by
  refine ⟨fun s hready => ⟨s.stamped (xs s), exec_of_ok ?_, fun r c => ?_⟩,
    fun s hready => exec_of_raiseError (c := .sequence) ?_⟩
  · rw [hbody, hready, staged_true]
  · exact stampMany_read_of_region s.grid (hxs s r c) (hout s r c)
  · rw [hbody, hready, staged_false]

section outside
variable {n r c : Nat}

theorem finderSpec_outside (h : ¬ (r < n ∧ c < n)) (hn : 17 ≤ n) : finderSpec n r c = none := by
  rw [finderSpec, if_neg (by omega), if_neg (by omega), if_neg (by omega)]

theorem separatorSpec_outside (h : ¬ (r < n ∧ c < n)) (hn : 17 ≤ n) :
    separatorSpec n r c = none := by
  rw [separatorSpec, if_neg (by omega)]

theorem timingSpec_outside (h : ¬ (r < n ∧ c < n)) (hn : 17 ≤ n) : timingSpec n r c = none := by
  rw [timingSpec, if_neg (by omega), if_neg (by omega)]

theorem formatSpec_outside (h : ¬ (r < n ∧ c < n)) (hn : 17 ≤ n) : formatSpec n r c = none := by
  rw [formatSpec, if_neg (by omega), if_neg (by omega)]

theorem versionSpec_outside {v : Nat} (h : ¬ (r < n ∧ c < n)) (hn : 17 ≤ n) :
    versionSpec v n r c = none := by
  rw [versionSpec, if_neg (by omega)]

end outside

/-! ### The alignment table (R314) -/

section alignment
variable {v : Nat}

theorem alignmentTable_bounds : ∀ v ≤ 40, 1 ≤ v → ∀ a ∈ alignmentTable v,
    6 ≤ a ∧ a + 7 ≤ symbolSize v := by
  decide

theorem two_le_of_mem_alignmentTable (hpos : 1 ≤ v) (hmax : v ≤ 40) {a : Nat}
    (ha : a ∈ alignmentTable v) : 2 ≤ a :=
  Nat.le_trans (by decide) (alignmentTable_bounds v hmax hpos a ha).1

theorem alignmentTable_apart : ∀ v ≤ 40, 1 ≤ v → ∀ a ∈ alignmentTable v, ∀ b ∈ alignmentTable v,
    distance a b ≤ 4 → a = b := by
  decide

/-- The first and the last centre, which the finder corners have (R315). -/
theorem alignmentTable_ends : ∀ v ≤ 40, 1 ≤ v → alignmentTable v ≠ [] →
    (alignmentTable v).headD 0 = 6 ∧ (alignmentTable v).getLastD 0 = symbolSize v - 7 := by
  decide

theorem isFinderCorner_eq_false_iff {first last a b : Nat} : isFinderCorner first last a b = false ↔
    (a, b) ∉ [(first, first), (first, last), (last, first)] := by
  simp only [isFinderCorner, Bool.or_eq_false_iff, Bool.and_eq_false_iff, beq_eq_false_iff_ne,
    List.mem_cons, Prod.mk.injEq, List.not_mem_nil, or_false]
  tauto

/-- What STAMP_ALIGN asks for in a symbol of a legal version (R314, R315). -/
theorem mem_alignmentStamps_of_legal (hpos : 1 ≤ v) (hmax : v ≤ 40) {r c : Nat} {t : Tag} :
    ⟨r, c, t⟩ ∈ alignmentStamps (alignmentCentres v) ↔
      ∃ a ∈ alignmentTable v, ∃ b ∈ alignmentTable v,
        (a, b) ∉ [(6, 6), (6, symbolSize v - 7), (symbolSize v - 7, 6)] ∧
        distance r a ≤ 2 ∧ distance c b ≤ 2 ∧
          t = ringTag 1 (max (distance r a) (distance c b)) := by
  rw [alignmentCentres_eq_alignmentTable v hmax hpos,
    mem_alignmentStamps fun _ => two_le_of_mem_alignmentTable hpos hmax]
  refine exists_congr fun a => and_congr_right fun ha => exists_congr fun b => ?_
  obtain ⟨hfirst, hlast⟩ := alignmentTable_ends v hmax hpos (List.ne_nil_of_mem ha)
  rw [hfirst, hlast, isFinderCorner_eq_false_iff]

/-- Two centres that ask for one module are the same (R314). -/
theorem alignmentTable_unique (hpos : 1 ≤ v) (hmax : v ≤ 40) {x a b : Nat}
    (ha : a ∈ alignmentTable v) (hb : b ∈ alignmentTable v) (hxa : distance x a ≤ 2)
    (hxb : distance x b ≤ 2) : a = b := by
  refine alignmentTable_apart v hmax hpos a ha b hb ?_
  unfold distance at hxa hxb ⊢
  omega

theorem alignmentTable_within (hpos : 1 ≤ v) (hmax : v ≤ 40) {x a : Nat} (ha : a ∈ alignmentTable v)
    (hxa : distance x a ≤ 2) : x < symbolSize v := by
  have hbounds := alignmentTable_bounds v hmax hpos a ha
  unfold distance at hxa
  omega

end alignment

/-! ### STAMP_ALL (R325) -/

/-- The requests of the six stamps in order. -/
def allStamps (T : QrTables) (v : Nat) : List Stamp :=
  finderStamps (symbolSize v) ++ separatorStamps (symbolSize v) ++ timingStamps (symbolSize v) ++
    alignmentStamps (T.alignment v) ++ formatStamps (symbolSize v) ++ versionStamps v (symbolSize v)

theorem State.doStampAll_grid (s : State) (T : QrTables) :
    (s.doStampAll T).grid = s.stamped (allStamps T s.gverNat) := by
  simp only [State.doStampAll, State.doFinder, State.doSep, State.doTiming, State.doAlign,
    State.doReserveFmt, State.doReserveVer, State.stamped, State.gridSide, State.gverNat, allStamps,
    stampMany_append]

theorem sequence_cons_of_ok {i : Instr} {is : List Instr} {s t : State}
    (h : commandBody i s = .ok t) : sequence (i :: is) s = sequence is (completed t) := by
  simp [Claims.sequence, exec_of_ok h, completed]

/-- A stage whose requirement is met, after a completed command: completion is no part of what it does. -/
theorem sequence_cons_of_stage {i : Instr} {is : List Instr} {ready : GridStat → Bool}
    {f : State → State} {s : State} (hbody : ∀ s, commandBody i s = staged (ready s.gridstat) (f s))
    (hf : ∀ s, f (completed s) = completed (f s)) (hready : ready s.gridstat = true) :
    sequence (i :: is) (completed s) = sequence is (completed (f s)) := by
  have hok : commandBody i (completed s) = .ok (completed (f s)) := by
    rw [hbody, hf]
    exact staged_eq_ok.mpr ⟨hready, rfl⟩
  exact (sequence_cons_of_ok hok :)

/-- Each stamp command leaves what the next one requires, and its completion changes no stamp (R303). -/
theorem sequence_stampCommands {s : State} (hv : s.gridstat.valid = true) :
    sequence stampCommands s = .next (completed (s.doStampAll qrTables)) := by
  have hsep : s.doFinder.gridstat.readySep = true := GridStat.readySep_iff.mpr ⟨hv, rfl⟩
  have htiming : s.doFinder.doSep.gridstat.readyTiming = true :=
    GridStat.readyTiming_iff.mpr ⟨hsep, rfl⟩
  have halign : s.doFinder.doSep.doTiming.gridstat.readyAlign = true :=
    GridStat.readyAlign_iff.mpr ⟨htiming, rfl⟩
  have hfmt : (s.doFinder.doSep.doTiming.doAlign qrTables).gridstat.readyFmt = true :=
    GridStat.readyFmt_iff.mpr ⟨halign, rfl⟩
  have hver : (s.doFinder.doSep.doTiming.doAlign qrTables).doReserveFmt.gridstat.readyVer = true :=
    GridStat.readyVer_iff.mpr ⟨hfmt, rfl⟩
  rw [stampCommands, sequence_cons_of_ok (i := .stampFinder) (staged_eq_ok.mpr ⟨hv, rfl⟩),
    sequence_cons_of_stage (i := .stampSep) (fun _ => rfl) (fun _ => rfl) hsep,
    sequence_cons_of_stage (i := .stampTiming) (fun _ => rfl) (fun _ => rfl) htiming,
    sequence_cons_of_stage (i := .stampAlign) (f := (·.doAlign qrTables)) (fun _ => rfl)
      (fun _ => rfl) halign,
    sequence_cons_of_stage (i := .reserveFmt) (fun _ => rfl) (fun _ => rfl) hfmt,
    sequence_cons_of_stage (i := .reserveVer) (fun _ => rfl) (fun _ => rfl) hver]
  rfl

end Sys2Proof.Machine
end

section
/-! PROOFS of the family "matrix". How many modules of the symbol no stamp asks for (R327). -/

namespace Sys2Proof.Machine

open Sys2Proof.Claims

/-! ### The modules the stamps ask for, off the timing lines -/

/-- The rows, or the columns, below `n` off the timing line (R311). -/
def offTiming (n : Nat) : Finset Nat := (Finset.range n).erase 6

/-- The corner blocks: finder patterns, separators, format modules and the dark module (R305, R308, R317,
R318). -/
def cornerModules (n : Nat) : Finset (Nat × Nat) :=
  offTiming 9 ×ˢ offTiming 9 ∪
    (offTiming 9 ×ˢ Finset.Ico (n - 8) n ∪ Finset.Ico (n - 8) n ×ˢ offTiming 9)

/-- The version modules (R321). -/
def versionModules (v n : Nat) : Finset (Nat × Nat) :=
  if 7 ≤ v then Finset.range 6 ×ˢ Finset.Ico (n - 11) (n - 8) ∪
    Finset.Ico (n - 11) (n - 8) ×ˢ Finset.range 6
  else ∅

/-- The pairs of alignment centres that are no finder corner (R315). -/
def alignmentPairs (v : Nat) : Finset (Nat × Nat) :=
  ((alignmentTable v).toFinset ×ˢ (alignmentTable v).toFinset).filter fun p =>
    p ∉ [(6, 6), (6, symbolSize v - 7), (symbolSize v - 7, 6)]

/-- The rows, or the columns, of an alignment pattern. -/
def alignmentBand (a : Nat) : Finset Nat := (Finset.Icc (a - 2) (a + 2)).erase 6

/-- The modules of the alignment patterns (R315). -/
def alignmentModuleSet (v : Nat) : Finset (Nat × Nat) :=
  (alignmentPairs v).biUnion fun p => alignmentBand p.1 ×ˢ alignmentBand p.2

theorem alignmentPairs_bounds : ∀ v ≤ 40, 1 ≤ v → ∀ p ∈ alignmentPairs v,
    (p.1 ≤ 10 → 11 ≤ p.2 ∧ p.2 + 14 ≤ symbolSize v) ∧
      (p.2 ≤ 10 → 11 ≤ p.1 ∧ p.1 + 14 ≤ symbolSize v) := by
  decide +kernel

section members
variable {v n r c a : Nat}

theorem mem_offTiming : r ∈ offTiming n ↔ r ≠ 6 ∧ r < n := by
  simp [offTiming]

theorem mem_cornerModules (hn : 17 ≤ n) : (r, c) ∈ cornerModules n ↔
    (r ≠ 6 ∧ c ≠ 6) ∧ ((r < 9 ∧ c < 9) ∨ (r < 9 ∧ n - 8 ≤ c ∧ c < n) ∨
      (n - 8 ≤ r ∧ r < n ∧ c < 9)) := by
  simp only [cornerModules, Finset.mem_union, Finset.mem_product, mem_offTiming, Finset.mem_Ico]
  omega

theorem mem_versionModules : (r, c) ∈ versionModules v n ↔ 7 ≤ v ∧
    ((r < 6 ∧ n - 11 ≤ c ∧ c < n - 8) ∨ (n - 11 ≤ r ∧ r < n - 8 ∧ c < 6)) := by
  unfold versionModules
  split
  case isTrue hv => simp [hv, and_assoc]
  case isFalse hv => simp [hv]

theorem mem_alignmentPairs {p : Nat × Nat} : p ∈ alignmentPairs v ↔
    (p.1 ∈ alignmentTable v ∧ p.2 ∈ alignmentTable v) ∧
      p ∉ [(6, 6), (6, symbolSize v - 7), (symbolSize v - 7, 6)] := by
  simp only [alignmentPairs, Finset.mem_filter, Finset.mem_product, List.mem_toFinset]

theorem mem_alignmentBand (ha : 2 ≤ a) : r ∈ alignmentBand a ↔ r ≠ 6 ∧ distance r a ≤ 2 := by
  simp only [alignmentBand, Finset.mem_erase, Finset.mem_Icc, distance]
  omega

theorem mem_alignmentModuleSet (hpos : 1 ≤ v) (hmax : v ≤ 40) : (r, c) ∈ alignmentModuleSet v ↔
    (r ≠ 6 ∧ c ≠ 6) ∧ ∃ t, ⟨r, c, t⟩ ∈ alignmentStamps (alignmentCentres v) := by
  have htwo {a : Nat} : a ∈ alignmentTable v → 2 ≤ a := two_le_of_mem_alignmentTable hpos hmax
  simp only [alignmentModuleSet, Finset.mem_biUnion, Finset.mem_product,
    mem_alignmentStamps_of_legal hpos hmax, mem_alignmentPairs, Prod.exists]
  constructor
  · rintro ⟨a, b, ⟨⟨ha, hb⟩, hcorner⟩, hra, hcb⟩
    rw [mem_alignmentBand (htwo ha)] at hra
    rw [mem_alignmentBand (htwo hb)] at hcb
    exact ⟨⟨hra.1, hcb.1⟩, _, a, ha, b, hb, hcorner, hra.2, hcb.2, rfl⟩
  · rintro ⟨⟨hr6, hc6⟩, t, a, ha, b, hb, hcorner, hra, hcb, -⟩
    exact ⟨a, b, ⟨⟨ha, hb⟩, hcorner⟩, (mem_alignmentBand (htwo ha)).mpr ⟨hr6, hra⟩,
      (mem_alignmentBand (htwo hb)).mpr ⟨hc6, hcb⟩⟩

/-- Beside a finder pattern the alignment patterns keep to the middle. -/
theorem alignmentModuleSet_bounds (hpos : 1 ≤ v) (hmax : v ≤ 40) (h : (r, c) ∈ alignmentModuleSet v) :
    (r < symbolSize v ∧ c < symbolSize v) ∧ (r ≤ 8 → 9 ≤ c ∧ c + 12 ≤ symbolSize v) ∧
      (c ≤ 8 → 9 ≤ r ∧ r + 12 ≤ symbolSize v) := by
  obtain ⟨⟨a, b⟩, hab, hrc⟩ := Finset.mem_biUnion.mp h
  obtain ⟨⟨ha, hb⟩, -⟩ := mem_alignmentPairs.mp hab
  have hbounds := alignmentPairs_bounds v hmax hpos _ hab
  have hra := alignmentTable_bounds v hmax hpos a ha
  have hcb := alignmentTable_bounds v hmax hpos b hb
  simp only [Finset.mem_product, alignmentBand, Finset.mem_erase, Finset.mem_Icc] at hrc hbounds
  omega

/-- The modules off the timing lines that some stamp asks for. -/
def requestedOffTiming (v : Nat) : Finset (Nat × Nat) :=
  cornerModules (symbolSize v) ∪ (versionModules v (symbolSize v) ∪ alignmentModuleSet v)

theorem exists_ite_some {p : Prop} [Decidable p] {u : Tag} {o : Option Tag} :
    (∃ t, (if p then some u else o) = some t) ↔ p ∨ ∃ t, o = some t := by
  by_cases hp : p <;> simp [hp]

theorem exists_mem_versionStamps_iff (hn : 17 ≤ n) :
    (∃ t, ⟨r, c, t⟩ ∈ versionStamps v n) ↔ (r, c) ∈ versionModules v n := by
  simp only [mem_versionStamps hn, versionSpec, exists_ite_some, reduceCtorEq, exists_false, or_false,
    mem_versionModules]
  omega

/-- The patterns that stand in every symbol are the timing lines and the corners. -/
theorem exists_mem_fixedStamps_iff (hn : 17 ≤ n) (hr : r < n) (hc : c < n) :
    (∃ t, ⟨r, c, t⟩ ∈ finderStamps n ++ separatorStamps n ++ timingStamps n ++ formatStamps n) ↔
      ¬ (r ≠ 6 ∧ c ≠ 6) ∨ (r, c) ∈ cornerModules n := by
  simp only [List.mem_append, exists_or, mem_finderStamps hn, mem_separatorStamps hn,
    mem_timingStamps hn, mem_formatStamps hn, finderSpec, separatorSpec, timingSpec, formatSpec,
    exists_ite_some, reduceCtorEq, exists_false, or_false, mem_cornerModules hn]
  constructor
  · refine fun h => or_iff_not_imp_left.mpr fun hoff => ⟨not_not.mp hoff, ?_⟩
    obtain ((hfinder | hseparator) | htiming) | hformat := h <;> omega
  · rintro (hline | ⟨hoff, hcorner⟩)
    · exact .inl (.inr (by omega))
    by_cases hformat : r = 8 ∨ c = 8
    · exact .inr (by omega)
    by_cases hseparator : r = 7 ∨ c = 7 ∨ r = n - 8 ∨ c = n - 8
    · exact .inl (.inl (.inr (by omega)))
    · exact .inl (.inl (.inl (by omega)))

theorem exists_mem_allStamps_iff (hpos : 1 ≤ v) (hmax : v ≤ 40) (hr : r < symbolSize v)
    (hc : c < symbolSize v) : (∃ t, ⟨r, c, t⟩ ∈ allStamps qrTables v) ↔
      ¬ (r ≠ 6 ∧ c ≠ 6) ∨ (r, c) ∈ requestedOffTiming v := by
  have hn := symbolSize_ge v
  have hsplit : (∃ t, ⟨r, c, t⟩ ∈ allStamps qrTables v) ↔
      (∃ t, ⟨r, c, t⟩ ∈ finderStamps (symbolSize v) ++ separatorStamps (symbolSize v) ++
        timingStamps (symbolSize v) ++ formatStamps (symbolSize v)) ∨
      (∃ t, ⟨r, c, t⟩ ∈ versionStamps v (symbolSize v)) ∨
      ∃ t, ⟨r, c, t⟩ ∈ alignmentStamps (alignmentCentres v) := by
    have htable : qrTables.alignment v = alignmentCentres v := rfl
    simp only [allStamps, htable, List.mem_append, exists_or]
    exact iff_of_eq (by ac_rfl)
  rw [hsplit, exists_mem_fixedStamps_iff hn hr hc, exists_mem_versionStamps_iff hn,
    requestedOffTiming, Finset.mem_union, Finset.mem_union, mem_alignmentModuleSet hpos hmax]
  by_cases hoff : r ≠ 6 ∧ c ≠ 6 <;> simp [hoff]

end members

/-! ### How many there are -/

/-- The alignment term of R250 is the modules of the patterns off the timing lines. -/
theorem sum_alignmentPairs : ∀ v ≤ 40, 1 ≤ v →
    (∑ p ∈ alignmentPairs v, (alignmentBand p.1).card * (alignmentBand p.2).card) =
      if v < 2 then 0 else alignmentModules v := by
  decide +kernel

section counts
variable {v n : Nat}

theorem card_offTiming (hn : 7 ≤ n) : (offTiming n).card = n - 1 := by
  rw [offTiming, Finset.card_erase_of_mem (Finset.mem_range.mpr hn), Finset.card_range]

theorem card_cornerModules (hn : 17 ≤ n) : (cornerModules n).card = 192 := by
  have hedge : (Finset.Ico (n - 8) n).card = 8 := by rw [Nat.card_Ico]; omega
  rw [cornerModules, Finset.card_union_of_disjoint, Finset.card_union_of_disjoint,
    Finset.card_product, Finset.card_product, Finset.card_product, card_offTiming (by decide), hedge]
  all_goals
    rw [Finset.disjoint_left]
    rintro ⟨r, c⟩
    simp only [Finset.mem_union, Finset.mem_product, mem_offTiming, Finset.mem_Ico]
    omega

theorem card_versionModules (hn : 17 ≤ n) :
    (versionModules v n).card = if 7 ≤ v then 36 else 0 := by
  unfold versionModules
  split
  case isFalse => rfl
  case isTrue =>
    have hthree : (Finset.Ico (n - 11) (n - 8)).card = 3 := by rw [Nat.card_Ico]; omega
    rw [Finset.card_union_of_disjoint, Finset.card_product, Finset.card_product, Finset.card_range,
      hthree]
    rw [Finset.disjoint_left]
    rintro ⟨r, c⟩
    simp only [Finset.mem_product, Finset.mem_range, Finset.mem_Ico]
    omega

theorem card_alignmentModuleSet (hpos : 1 ≤ v) (hmax : v ≤ 40) :
    (alignmentModuleSet v).card = if v < 2 then 0 else alignmentModules v := by
  rw [alignmentModuleSet, Finset.card_biUnion, ← sum_alignmentPairs v hmax hpos]
  · simp only [Finset.card_product]
  · rintro ⟨a, b⟩ hab ⟨a', b'⟩ hab' hne
    rw [Function.onFun, Finset.disjoint_left]
    rintro ⟨r, c⟩ hrc hrc'
    have hbands {a r : Nat} (ha : a ∈ alignmentTable v) (hr : r ∈ alignmentBand a) :
        distance r a ≤ 2 :=
      ((mem_alignmentBand (two_le_of_mem_alignmentTable hpos hmax ha)).mp hr).2
    obtain ⟨⟨ha, hb⟩, -⟩ := mem_alignmentPairs.mp hab
    obtain ⟨⟨ha', hb'⟩, -⟩ := mem_alignmentPairs.mp hab'
    obtain ⟨hr, hc⟩ := Finset.mem_product.mp hrc
    obtain ⟨hr', hc'⟩ := Finset.mem_product.mp hrc'
    exact hne (Prod.ext
      (alignmentTable_unique hpos hmax ha ha' (hbands ha hr) (hbands ha' hr'))
      (alignmentTable_unique hpos hmax hb hb' (hbands hb hc) (hbands hb' hc')))

/-- The three kinds of module do not meet. -/
theorem card_requestedOffTiming (hpos : 1 ≤ v) (hmax : v ≤ 40) :
    (requestedOffTiming v).card = 192 + ((if 7 ≤ v then 36 else 0) +
      if v < 2 then 0 else alignmentModules v) := by
  have hn := symbolSize_ge v
  rw [requestedOffTiming, Finset.card_union_of_disjoint, Finset.card_union_of_disjoint,
    card_cornerModules hn, card_versionModules hn, card_alignmentModuleSet hpos hmax]
  · rw [Finset.disjoint_left]
    rintro ⟨r, c⟩ hversion halign
    have hbounds := alignmentModuleSet_bounds hpos hmax halign
    rw [mem_versionModules] at hversion
    omega
  · rw [Finset.disjoint_left]
    rintro ⟨r, c⟩ hcorner hrest
    rw [mem_cornerModules hn] at hcorner
    obtain hversion | halign := Finset.mem_union.mp hrest
    · rw [mem_versionModules, symbolSize] at hversion
      rw [symbolSize] at hcorner
      omega
    · have hbounds := alignmentModuleSet_bounds hpos hmax halign
      omega

/-- They lie in the symbol. -/
theorem requestedOffTiming_subset (hpos : 1 ≤ v) (hmax : v ≤ 40) :
    requestedOffTiming v ⊆ offTiming (symbolSize v) ×ˢ offTiming (symbolSize v) := by
  have hn := symbolSize_ge v
  rintro ⟨r, c⟩ h
  simp only [requestedOffTiming, Finset.mem_union, mem_cornerModules hn, mem_versionModules] at h
  simp only [Finset.mem_product, mem_offTiming]
  obtain hcorner | hversion | halign := h
  · omega
  · unfold symbolSize at hversion ⊢
    omega
  · have hbounds := alignmentModuleSet_bounds hpos hmax halign
    have hoff := ((mem_alignmentModuleSet hpos hmax).mp halign).1
    omega

theorem square_sub_card_requestedOffTiming (hpos : 1 ≤ v) (hmax : v ≤ 40) :
    (symbolSize v - 1) * (symbolSize v - 1) - (requestedOffTiming v).card = rawDataModules v := by
  rw [card_requestedOffTiming hpos hmax]
  have hsquare : (symbolSize v - 1) * (symbolSize v - 1) = (16 * v + 128) * v + 64 + 192 := by
    rw [symbolSize, Nat.add_sub_assoc (by decide)]
    ring
  rw [hsquare]
  simp only [rawDataModules]
  split_ifs <;> omega

end counts

/-! ### The Unset modules of the symbol -/

theorem unsetCount_eq_card (n : Nat) (g : Grid) : unsetCount n g =
    ((Finset.range n ×ˢ Finset.range n).filter fun p => (g.read p.1 p.2).tag = .unset).card := by
  have hsquare : (squareModules n).toFinset = Finset.range n ×ˢ Finset.range n := by
    ext p
    simp [mem_squareModules]
  rw [unsetCount, List.countP_eq_length_filter, ← hsquare,
    ← List.toFinset_card_of_nodup ((nodup_squareModules n).filter _), List.toFinset_filter]
  simp

/-- On a fresh grid the stamps leave Unset the modules they do not ask for. -/
theorem tag_stampMany_eq_unset_iff {n : Nat} {xs : List Stamp} (hxs : ∀ x ∈ xs, x.t ≠ .unset)
    {r c : Nat} (hr : r < n) (hc : c < n) :
    ((stampMany n [] xs).read r c).tag = .unset ↔ ¬ ∃ t, ⟨r, c, t⟩ ∈ xs := by
  obtain hsame | ⟨t, -, -, ht, hread⟩ := stampMany_read_cases n [] xs r c
  · have hnone : ¬ ∃ t, ⟨r, c, t⟩ ∈ xs := by
      rintro ⟨t, ht⟩
      have hfn := stampMany_fn_of_mem [] ht hr hc
      simp [hsame, GridCell.blank] at hfn
    simp [hsame, GridCell.blank, hnone]
  · rw [hread]
    exact iff_of_false (hxs _ ht) (not_not.mpr ⟨t, ht⟩)

theorem ne_unset_of_mem_allStamps {T : QrTables} {v : Nat} {x : Stamp} (hx : x ∈ allStamps T v) :
    x.t ≠ .unset := by
  simp only [allStamps, List.mem_append] at hx
  obtain ((((hx | hx) | hx) | hx) | hx) | hx := hx
  · exact (lightDark_of_mem_finderStamps hx).ne_unset
  · exact (lightDark_of_mem_separatorStamps hx).ne_unset
  · exact (lightDark_of_mem_timingStamps hx).ne_unset
  · exact (lightDark_of_mem_alignmentStamps hx).ne_unset
  · obtain ⟨-, ht⟩ | ⟨-, ht⟩ := mem_formatStamps_iff.mp hx <;> simp [ht]
  · simp [(mem_versionStamps_iff.mp hx).2.2]

/-- R327: off the timing lines, the modules that no stamp asks for. -/
theorem unsetCount_stampMany_allStamps {v : Nat} (hpos : 1 ≤ v) (hmax : v ≤ 40) :
    unsetCount (symbolSize v) (stampMany (symbolSize v) [] (allStamps qrTables v)) =
      rawDataModules v := by
  have hside : 7 ≤ symbolSize v := Nat.le_trans (by decide) (symbolSize_ge v)
  have hset : (Finset.range (symbolSize v) ×ˢ Finset.range (symbolSize v)).filter (fun p =>
      ((stampMany (symbolSize v) [] (allStamps qrTables v)).read p.1 p.2).tag = .unset) =
      (offTiming (symbolSize v) ×ˢ offTiming (symbolSize v)) \ requestedOffTiming v := by
    ext ⟨r, c⟩
    simp only [Finset.mem_filter, Finset.mem_product, Finset.mem_range, Finset.mem_sdiff, mem_offTiming]
    constructor
    · rintro ⟨⟨hr, hc⟩, hunset⟩
      rw [tag_stampMany_eq_unset_iff (fun _ => ne_unset_of_mem_allStamps) hr hc,
        exists_mem_allStamps_iff hpos hmax hr hc, not_or, not_not] at hunset
      obtain ⟨⟨hr6, hc6⟩, hnot⟩ := hunset
      exact ⟨⟨⟨hr6, hr⟩, hc6, hc⟩, hnot⟩
    · rintro ⟨⟨⟨hr6, hr⟩, hc6, hc⟩, hnot⟩
      rw [tag_stampMany_eq_unset_iff (fun _ => ne_unset_of_mem_allStamps) hr hc,
        exists_mem_allStamps_iff hpos hmax hr hc, not_or, not_not]
      exact ⟨⟨hr, hc⟩, ⟨hr6, hc6⟩, hnot⟩
  rw [unsetCount_eq_card, hset, Finset.card_sdiff_of_subset (requestedOffTiming_subset hpos hmax),
    Finset.card_product, card_offTiming hside, square_sub_card_requestedOffTiming hpos hmax]

end Sys2Proof.Machine
end

section
/-! PROOFS of the family "matrix": O31 to O39. -/

namespace Sys2Proof.Proofs

open Sys2Proof.Machine Sys2Proof.Claims

/-- Settles O31: an empty grid reads blank everywhere. -/
theorem gridinitResult : Obligations.GridinitResult := by
  unfold Obligations.GridinitResult
  intro s
  refine ⟨fun hpos hmax => ⟨[], exec_of_ok (i := .gridinit) (gridinitBody_eq_ok.mpr
    ⟨legalVersion_iff.mpr ⟨hpos, hmax⟩, rfl⟩), fun r c => rfl⟩,
    fun h => exec_of_raiseError (i := .gridinit) (c := .range) ?_⟩
  exact if_neg (Bool.eq_false_iff.mp (legalVersion_eq_false h))

/-- Settles O32: the requests are the three finder patterns, which do not meet. -/
theorem stampFinderResult : Obligations.StampFinderResult :=
  stampCommand_of_requests (fun _ => rfl) (fun s _ _ _ => mem_finderStamps s.gridSide_ge_17)
    (fun s _ _ hout => finderSpec_outside hout s.gridSide_ge_17)

/-- Settles O33: the requests are the six segments of R308, all Light. -/
theorem stampSepResult : Obligations.StampSepResult :=
  stampCommand_of_requests (fun _ => rfl) (fun s _ _ _ => mem_separatorStamps s.gridSide_ge_17)
    (fun s _ _ hout => separatorSpec_outside hout s.gridSide_ge_17)

/-- Settles O34: the requests are row 6 and column 6, which agree at `(6, 6)`. -/
theorem stampTimingResult : Obligations.StampTimingResult :=
  stampCommand_of_requests (fun _ => rfl) (fun s _ _ _ => mem_timingStamps s.gridSide_ge_17)
    (fun s _ _ hout => timingSpec_outside hout s.gridSide_ge_17)

/-- Settles O35: the centres of R314 are so far apart that a module is asked for by one of them at most. -/
theorem stampAlignResult : Obligations.StampAlignResult := by
  unfold Obligations.StampAlignResult
  refine ⟨?_, fun s hnot => exec_of_raiseError (i := .stampAlign) (c := .sequence) ?_⟩
  · rintro s _ rfl hvalid hfinder hsep htiming hpos hmax
    refine ⟨s.stamped (alignmentStamps (alignmentCentres s.gverNat)),
      exec_of_ok (i := .stampAlign) (staged_eq_ok.mpr ⟨?_, rfl⟩), ?_, ?_⟩
    · exact GridStat.readyAlign_iff.mpr ⟨GridStat.readyTiming_iff.mpr
        ⟨GridStat.readySep_iff.mpr ⟨hvalid, hfinder⟩, hsep⟩, htiming⟩
    · intro a b r c ha hb hcorner hra hcb
      refine stampMany_read_of_mem s.grid ((mem_alignmentStamps_of_legal hpos hmax).mpr
          ⟨a, ha, b, hb, hcorner, hra, hcb, rfl⟩) (fun u hu => ?_)
        (alignmentTable_within hpos hmax ha hra) (alignmentTable_within hpos hmax hb hcb)
      obtain ⟨a', ha', b', hb', -, hra', hcb', rfl⟩ := (mem_alignmentStamps_of_legal hpos hmax).mp hu
      rw [alignmentTable_unique hpos hmax ha ha' hra hra',
        alignmentTable_unique hpos hmax hb hb' hcb hcb']
    · intro r c hfar
      refine stampMany_read_of_not_mem _ s.grid fun t ht => ?_
      obtain ⟨a, ha, b, hb, hcorner, hra, hcb, -⟩ := (mem_alignmentStamps_of_legal hpos hmax).mp ht
      obtain hfar | hfar := hfar a b ha hb hcorner <;> omega
  · refine staged_eq_raiseError.mpr ⟨Bool.eq_false_iff.mpr fun hready => ?_, rfl⟩
    simp only [GridStat.readyAlign_iff, GridStat.readyTiming_iff, GridStat.readySep_iff] at hready
    simp [hready] at hnot

/-- Settles O36: the requests are the format modules, and the dark module is none of them. -/
theorem reserveFmtResult : Obligations.ReserveFmtResult :=
  stampCommand_of_requests (fun _ => rfl) (fun s _ _ _ => mem_formatStamps s.gridSide_ge_17)
    (fun s _ _ hout => formatSpec_outside hout s.gridSide_ge_17)

/-- Settles O37: the requests are the version modules, from version 7 on. -/
theorem reserveVerResult : Obligations.ReserveVerResult :=
  stampCommand_of_requests (fun _ => rfl) (fun s _ _ _ => mem_versionStamps s.gridSide_ge_17)
    (fun s _ _ hout => versionSpec_outside hout s.gridSide_ge_17)

/-- Settles O38: STAMP_ALL is one list of requests, and stamping a list twice is stamping it once. -/
theorem stampAllIsTheSixStamps : Obligations.StampAllIsTheSixStamps := by
  unfold Obligations.StampAllIsTheSixStamps
  intro s
  refine ⟨fun hv => ?_, fun hv => exec_of_raiseError (i := .stampAll) (c := .sequence)
    (staged_eq_raiseError.mpr ⟨hv, rfl⟩)⟩
  have hexec (u : State) (hu : u.gridstat.valid = true) :
      exec .stampAll u = .next (completed (u.doStampAll qrTables)) :=
    exec_of_ok (i := .stampAll) (staged_eq_ok.mpr ⟨hu, rfl⟩)
  refine ⟨_, hexec s hv, rfl, sequence_stampCommands hv, _, hexec _ (by simp [completed, hv]), rfl, ?_,
    fun r c => ?_⟩
  · simp [completed]
  · show ((completed (s.doStampAll qrTables)).doStampAll qrTables).grid.read r c =
      (s.doStampAll qrTables).grid.read r c
    rw [State.doStampAll_grid, completed, State.stamped]
    simp only [State.doStampAll_grid]
    exact stampMany_stampMany_read _ s.grid _ r c

/-- Settles O39: the stamps are one list of requests on a fresh grid, and the modules they ask for are
counted region by region. -/
theorem moduleCountLaw : Obligations.ModuleCountLaw := by
  unfold Obligations.ModuleCountLaw
  intro s t hpos hmax hseq
  have hinit : commandBody .gridinit s = .ok
      { s with grid := [], gridstat := GridStat.initial s.config.version } :=
    gridinitBody_eq_ok.mpr ⟨legalVersion_iff.mpr ⟨hpos, hmax⟩, rfl⟩
  rw [sequence_cons_of_ok hinit,
    sequence_cons_of_ok (i := .stampAll) (staged_eq_ok.mpr ⟨rfl, rfl⟩)] at hseq
  obtain rfl := Host.Outcome.next.inj hseq
  show unsetCount (symbolSize s.versionNat) (State.doStampAll _ qrTables).grid = _
  rw [State.doStampAll_grid]
  exact unsetCount_stampMany_allStamps hpos hmax

end Sys2Proof.Proofs
end

section
/-! PROOFS of the family "placement". The visit order pair by pair (R350). -/

namespace Sys2Proof.Machine

open Sys2Proof.Claims

/-- The right column of the pair `p` from the right, of `k` pairs (R350). -/
def pairColumn (k p : Nat) : Nat := if 8 ≤ 2 * k - 2 * p then 2 * k - 2 * p else 2 * k - 2 * p - 1

/-- From the rightmost column of `k` pairs on, the pairs are those `k`; three pairs or fewer stand left of
the timing column. -/
theorem pairColumns_eq_map {fuel right k : Nat} (hfuel : k ≤ fuel)
    (hright : right = if 3 ≤ k then 2 * k else 2 * k - 1) :
    pairColumns fuel right = (List.range k).map (pairColumn k) := by
  induction k generalizing fuel right with
  | zero =>
    subst hright
    cases fuel <;> rfl
  | succ k ih =>
    obtain ⟨fuel, rfl⟩ := Nat.exists_eq_add_of_le' hfuel
    have hpos : ¬ right < 1 := by split at hright <;> omega
    have hhead : (if right = 6 then 5 else right) = pairColumn (k + 1) 0 := by
      unfold pairColumn
      split at hright <;> split_ifs <;> omega
    have hnext : pairColumn (k + 1) 0 - 2 = if 3 ≤ k then 2 * k else 2 * k - 1 := by
      unfold pairColumn
      split_ifs <;> omega
    have htail (p : Nat) : pairColumn (k + 1) (p + 1) = pairColumn k p := by
      have hshift : 2 * (k + 1) - 2 * (p + 1) = 2 * k - 2 * p := by omega
      rw [pairColumn, hshift, pairColumn]
    have hrest := ih (fuel := fuel + k) (Nat.le_add_left k fuel) hnext
    rw [← Nat.add_assoc, pairColumns, if_neg hpos, List.range_succ_eq_map]
    simp [hhead, hrest, htail, Function.comp_def]

theorem pairUpward_iff (right : Nat) : pairUpward right = true ↔ (right + 1) / 2 % 2 = 0 := by
  have hbit : (right + 1) &&& 2 = ((right + 1).testBit 1).toNat * 2 := Nat.and_two_pow (right + 1) 1
  rw [pairUpward, hbit, Nat.testBit_eq_decide_div_mod_eq]
  rcases Nat.mod_two_eq_zero_or_one ((right + 1) / 2) with h | h <;> simp [h]

theorem length_pair (n p : Nat) :
    ((List.range n).flatMap fun vert => (List.range 2).map (visitSpec n p vert)).length = 2 * n := by
  rw [length_flatMap_rows fun _ _ => by rw [List.length_map, List.length_range], Nat.mul_comm]

section order
variable {v n p : Nat} (hn : n = 4 * v + 17)
include hn

theorem visitSpec_eq (vert side : Nat) : visitSpec n p vert side =
    (if p % 2 = 0 then n - 1 - vert else vert, pairColumn ((n - 1) / 2) p - side) := by
  have hlast : 2 * ((n - 1) / 2) = n - 1 := by omega
  have hskip : n - 2 - 2 * p = n - 1 - 2 * p - 1 := by omega
  rw [visitSpec, pairColumn, hlast, hskip]

/-- The last column is a multiple of 4, so the pairs go up and down in turn, the first one up. -/
theorem pairUpward_pairColumn (hp : p < (n - 1) / 2) :
    pairUpward (pairColumn ((n - 1) / 2) p) = true ↔ p % 2 = 0 := by
  rw [pairUpward_iff, pairColumn]
  split <;> omega

theorem pairOrder_pairColumn (hp : p < (n - 1) / 2) : pairOrder n (pairColumn ((n - 1) / 2) p) =
    (List.range n).flatMap fun vert => (List.range 2).map (visitSpec n p vert) := by
  show _ = (List.range n).flatMap fun vert => [visitSpec n p vert 0, visitSpec n p vert 1]
  simp only [pairOrder, pairUpward_pairColumn hn hp, visitSpec_eq hn, Nat.sub_zero]

theorem visitOrder_eq_flatMap : visitOrder n = (List.range ((n - 1) / 2)).flatMap fun p =>
    (List.range n).flatMap fun vert => (List.range 2).map (visitSpec n p vert) := by
  have hpairs : pairColumns n (n - 1) = (List.range ((n - 1) / 2)).map (pairColumn ((n - 1) / 2)) :=
    pairColumns_eq_map (by omega) (by rw [if_pos (by omega)]; omega)
  rw [visitOrder, hpairs, List.flatMap_map]
  exact List.flatMap_congr fun p hp => pairOrder_pairColumn hn (List.mem_range.mp hp)

theorem getElem?_visitOrder {vert side : Nat} (hp : p < (n - 1) / 2) (hvert : vert < n)
    (hside : side < 2) :
    (visitOrder n)[p * (2 * n) + 2 * vert + side]? = some (visitSpec n p vert side) := by
  rw [visitOrder_eq_flatMap hn, Nat.add_assoc,
    getElem?_flatMap_rows (fun p _ => length_pair n p) hp (by omega), Nat.mul_comm 2 vert,
    getElem?_flatMap_rows (fun _ _ => by rw [List.length_map, List.length_range]) hvert hside,
    List.getElem?_map, List.getElem?_range hside]
  rfl

theorem length_visitOrder : (visitOrder n).length = n * (n - 1) := by
  have heven : (n - 1) / 2 * 2 = n - 1 := by omega
  rw [visitOrder_eq_flatMap hn, length_flatMap_rows fun p _ => length_pair n p, ← Nat.mul_assoc, heven,
    Nat.mul_comm]

theorem visitSpec_column_ne_six {vert side : Nat} (hside : side < 2) :
    (visitSpec n p vert side).2 ≠ 6 := by
  rw [visitSpec_eq hn, pairColumn]
  dsimp only
  split <;> omega

theorem mem_visitOrder_iff {r c : Nat} : (r, c) ∈ visitOrder n ↔ r < n ∧ c < n ∧ c ≠ 6 := by
  constructor
  · intro h
    obtain ⟨hr, hc⟩ := visitOrder_within (by omega) _ h
    refine ⟨hr, hc, ?_⟩
    simp only [visitOrder_eq_flatMap hn, List.mem_flatMap, List.mem_map, List.mem_range] at h
    obtain ⟨p, -, vert, -, side, hside, hvisit⟩ := h
    have hside6 := visitSpec_column_ne_six hn (p := p) (vert := vert) hside
    rwa [hvisit] at hside6
  · rintro ⟨hr, hc, hc6⟩
    exact mem_visitOrder (by omega) (by omega) hr hc hc6

/-- As many visits as modules outside the timing column, each of them visited: none is visited twice. -/
theorem nodup_visitOrder : (visitOrder n).Nodup := by
  have hmodules : (visitOrder n).toFinset = Finset.range n ×ˢ offTiming n := by
    ext ⟨r, c⟩
    simp only [List.mem_toFinset, mem_visitOrder_iff hn, Finset.mem_product, Finset.mem_range, mem_offTiming]
    exact and_congr_right' and_comm
  have hcard : (visitOrder n).toFinset.card = (visitOrder n).length := by
    rw [hmodules, Finset.card_product, Finset.card_range, card_offTiming (by omega), length_visitOrder hn]
  exact Multiset.toFinset_card_eq_card_iff_nodup.mp hcard

end order

end Sys2Proof.Machine
end

section
/-! PROOFS of the family "placement". The placer module by module, the bits of the stream, and the stops of
PLACE (R130, R351 to R354). -/

namespace Sys2Proof.Machine

open Sys2Proof.Claims

/-! ### The placer module by module (R351 to R353) -/

section placer
variable {ps : List (Nat × Nat)} {p : Nat × Nat} {bits : List Bool} {g : Grid}

/-- Past its end the stream gives zeros. -/
theorem placeBits_cons_of_unset (hp : (g.read p.1 p.2).tag = .unset) : placeBits (p :: ps) bits g =
    placeBits ps bits.tail (g.setTag p.1 p.2 (bitTag (bits.getD 0 false))) := by
  cases bits <;> exact if_pos hp

theorem placeBits_cons_of_ne_unset (hp : (g.read p.1 p.2).tag ≠ .unset) :
    placeBits (p :: ps) bits g = placeBits ps bits g := if_neg hp

theorem Grid.read_setTag_of_ne {q : Nat × Nat} {t : Tag} (ht : t ≠ .unset) (hqp : q ≠ p) :
    (g.setTag p.1 p.2 t).read q.1 q.2 = g.read q.1 q.2 := by
  rw [Grid.read_setTag g _ _ _ _ ht, if_neg (by rwa [← Prod.ext_iff])]

theorem placeBits_read_of_not_mem {q : Nat × Nat} (hq : q ∉ ps) :
    (placeBits ps bits g).read q.1 q.2 = g.read q.1 q.2 := by
  induction ps generalizing bits g with
  | nil => rfl
  | cons p ps ih =>
    obtain ⟨hqp, hqps⟩ := not_or.mp (List.mem_cons.not.mp hq)
    by_cases hp : (g.read p.1 p.2).tag = .unset
    · rw [placeBits_cons_of_unset hp, ih hqps, Grid.read_setTag_of_ne (bitTag_ne_unset _) hqp]
    · rw [placeBits_cons_of_ne_unset hp, ih hqps]

theorem placeBits_read_of_ne_unset {q : Nat × Nat} (hq : (g.read q.1 q.2).tag ≠ .unset) :
    (placeBits ps bits g).read q.1 q.2 = g.read q.1 q.2 := by
  induction ps generalizing bits g with
  | nil => rfl
  | cons p ps ih =>
    by_cases hp : (g.read p.1 p.2).tag = .unset
    · have hqp : q ≠ p := fun h => hq (h ▸ hp)
      have hsame := Grid.read_setTag_of_ne (g := g) (bitTag_ne_unset (bits.getD 0 false)) hqp
      rw [placeBits_cons_of_unset hp, ih (by rwa [hsame]), hsame]
    · rw [placeBits_cons_of_ne_unset hp, ih hq]

/-- No module is visited twice, so the one that is Unset when it is visited was so before (R351). -/
theorem placeBits_read_of_unset (hps : ps.Nodup) {i : Nat}
    (hi : (ps.filter fun p => (g.read p.1 p.2).tag = .unset)[i]? = some p) :
    (placeBits ps bits g).read p.1 p.2 =
      { g.read p.1 p.2 with tag := bitTag (bits.getD i false) } := by
  induction ps generalizing bits g i with
  | nil => simp at hi
  | cons q ps ih =>
    obtain ⟨hq, hps⟩ := List.nodup_cons.mp hps
    by_cases hunset : (g.read q.1 q.2).tag = .unset
    · rw [List.filter_cons_of_pos (by simpa using hunset)] at hi
      rw [placeBits_cons_of_unset hunset]
      cases i with
      | zero =>
        obtain rfl : q = p := by simpa using hi
        rw [placeBits_read_of_not_mem hq, Grid.read_setTag g _ _ _ _ (bitTag_ne_unset _),
          if_pos ⟨rfl, rfl⟩]
      | succ i =>
        have hsame (x : Nat × Nat) (hx : x ∈ ps) :
            (g.setTag q.1 q.2 (bitTag (bits.getD 0 false))).read x.1 x.2 = g.read x.1 x.2 :=
          Grid.read_setTag_of_ne (bitTag_ne_unset _) fun h => hq (h ▸ hx)
        rw [List.getElem?_cons_succ] at hi
        have hp : p ∈ ps := List.mem_of_mem_filter (List.mem_of_getElem? hi)
        rw [List.filter_congr fun x hx => by rw [← hsame x hx]] at hi
        rw [ih hps hi, hsame p hp]
        simp [List.getD_eq_getElem?_getD]
    · rw [List.filter_cons_of_neg (by simpa using hunset)] at hi
      rw [placeBits_cons_of_ne_unset hunset, ih hps hi]

end placer

/-! ### The bits of the stream (R130) -/

theorem length_byteBits (b : Byte) : (byteBits b).length = 8 := by
  rw [byteBits, List.length_map, List.length_range]

theorem getD_byteBits (b : Byte) {i : Nat} (hi : i < 8) :
    (byteBits b).getD i false = b.getLsbD (7 - i) := by
  rw [List.getD_eq_getElem?_getD, byteBits, List.getElem?_map, List.getElem?_range hi]
  rfl

theorem getD_streamBits (bytes : List Byte) (i : Nat) : (streamBits bytes).getD i false =
    (decide (i < 8 * bytes.length) && (bytes.getD (i / 8) 0).getLsbD (7 - i % 8)) := by
  induction bytes generalizing i with
  | nil => simp [streamBits]
  | cons b bytes ih =>
    rw [streamBits, List.flatMap_cons, List.length_cons]
    by_cases hi : i < 8
    · rw [List.getD_append _ _ _ _ (by rwa [length_byteBits]), getD_byteBits b hi, Nat.div_eq_of_lt hi,
        Nat.mod_eq_of_lt hi, decide_eq_true (by omega)]
      rfl
    · obtain ⟨k, rfl⟩ := Nat.exists_eq_add_of_le' (Nat.le_of_not_lt hi)
      rw [List.getD_append_right _ _ _ _ (by rw [length_byteBits]; omega), length_byteBits,
        Nat.add_sub_cancel, ← streamBits, ih, Nat.add_div_right _ (by decide), Nat.add_mod_right]
      simp [Nat.mul_add]

/-! ### The errors of PLACE in order, and its fault (R354) -/

section stops
variable {s : State}

theorem placeBody_of_sequence (h : s.gridstat.allStamped = false ∨ s.gridstat.placed = true) :
    placeBody s = raiseError .sequence :=
  guard_of_or (h.imp (fun hstamped => by simp [hstamped]) (if_pos ·))

variable (hstamped : s.gridstat.allStamped = true) (hplaced : s.gridstat.placed = false)
include hstamped hplaced

theorem placeBody_of_invariant (h : s.cwlenNat ≠ rawDataModules s.gverNat / 8 ∨
    unsetCount s.gridSide s.grid ≠ rawDataModules s.gverNat) :
    placeBody s = raiseError .invariant := by
  rw [placeBody, if_neg (by simp [hstamped]), if_neg (by simp [hplaced])]
  exact guard_of_or (h.imp_right (if_pos ·))

theorem placeBody_of_unwritten (hlen : s.cwlenNat = rawDataModules s.gverNat / 8)
    (hcount : unsetCount s.gridSide s.grid = rawDataModules s.gverNat)
    (h : s.readBytes .cwbuf 0 s.cwlenNat = none) :
    placeBody s = .error (.fault .unwrittenBufferByte) := by
  rw [placeBody, if_neg (by simp [hstamped]), if_neg (by simp [hplaced]), if_neg (not_not.mpr hlen),
    if_neg (not_not.mpr hcount), h, withBytes_none]

end stops

end Sys2Proof.Machine
end

section
/-! PROOFS of the family "placement": O40 and O41. -/

namespace Sys2Proof.Proofs

open Sys2Proof.Machine Sys2Proof.Claims

/-- Settles O40: the order is a list of rows of one width, and it has no room for a second visit. -/
theorem visitOrderIsTheZigzag : Obligations.VisitOrderIsTheZigzag := by
  unfold Obligations.VisitOrderIsTheZigzag
  intro v n _ hn
  exact ⟨fun _ _ _ hp hvert hside => getElem?_visitOrder hn hp hvert hside, nodup_visitOrder hn,
    length_visitOrder hn, fun _ _ => mem_visitOrder_iff hn⟩

/-- Settles O41: the checks in their order, then the placer module by module. -/
theorem placeResult : Obligations.PlaceResult := by
  unfold Obligations.PlaceResult
  rintro s _ _ rfl rfl
  refine ⟨fun bytes hstamped hplaced hcw hcount hlen hbytes => ?_,
    fun h => exec_of_raiseError (i := .place) (placeBody_of_sequence h),
    fun hstamped hplaced h =>
      exec_of_raiseError (i := .place) (placeBody_of_invariant hstamped hplaced h),
    fun hstamped hplaced hcw hcount h => ?_⟩
  · have hread : s.readBytes .cwbuf 0 s.cwlenNat = some bytes :=
      State.readBytes_eq_some.mpr ⟨hlen, hbytes⟩
    refine ⟨placeBits (visitOrder s.gridSide) (streamBits bytes) s.grid,
      exec_of_ok (i := .place) (placeBody_eq_ok.mpr
        ⟨hstamped, Bool.eq_false_iff.mp hplaced, hcw, hcount, bytes, hread, rfl⟩),
      fun i p hi => ?_, fun r c h => ?_⟩
    · rw [← hlen, ← getD_streamBits]
      exact placeBits_read_of_unset (nodup_visitOrder rfl) hi
    · obtain htagged | hnot := h
      · exact placeBits_read_of_ne_unset (q := (r, c)) htagged
      · exact placeBits_read_of_not_mem (q := (r, c)) hnot
  · have hunread : s.readBytes .cwbuf 0 s.cwlenNat = none :=
      State.readBytes_eq_none.mpr (by simpa [State.cwlenNat] using h)
    exact exec_of_fault (i := .place) (placeBody_of_unwritten hstamped hplaced hcw hcount hunread)

end Sys2Proof.Proofs
end

section
/-! PROOFS of the family "mask_format". How a command that needs earlier stages answers, and the masks module
by module (R303, R380, R381). -/

namespace Sys2Proof.Machine

open Sys2Proof.Claims

/-! ### Commands that need earlier stages (R303) -/

section stages
variable {i : Instr} {s t : State} {ready : Bool}

theorem exec_of_ready (hbody : commandBody i s = staged ready t) (h : ready = true) :
    exec i s = .next (completed t) :=
  exec_of_ok (hbody.trans (staged_eq_ok.mpr ⟨h, rfl⟩))

theorem exec_of_not_ready (hbody : commandBody i s = staged ready t) (h : ready = false) :
    exec i s = .next (failed s 6) :=
  exec_of_raiseError (c := .sequence) (hbody.trans (staged_eq_raiseError.mpr ⟨h, rfl⟩))

theorem sequence_cons_of_next {is : List Instr} (h : exec i s = .next t) (herr : t.status.err = false) :
    sequence (i :: is) s = sequence is t := by
  simp [Claims.sequence, h, herr]

theorem sequence_singleton_of_next (h : exec i s = .next t) : sequence [i] s = .next t := by
  simp [Claims.sequence, h]

end stages

section ready
variable {g : GridStat}

theorem GridStat.readyMask_eq_false_iff : g.readyMask = false ↔ g.valid = false ∨ g.placed = false :=
  Bool.and_eq_false_iff

theorem GridStat.readyFinalize_iff : g.readyFinalize = true ↔
    g.valid = true ∧ g.placed = true ∧ g.sel = true ∧ g.final = false := by
  simp [GridStat.readyFinalize, and_assoc]

theorem GridStat.readyFinalize_eq_false_iff : g.readyFinalize = false ↔
    g.valid = false ∨ g.placed = false ∨ g.sel = false ∨ g.final = true := by
  simp [GridStat.readyFinalize, or_assoc, imp_iff_not_or]

end ready

/-! ### Masks (R380, R381) -/

theorem maskPredicate_eq_maskCondition (k : BitVec 3) (r c : Nat) :
    maskPredicate k.toNat r c = maskCondition k r c := by
  have hk : k.toNat < 8 := k.isLt
  unfold maskCondition
  generalize k.toNat = m at hk
  interval_cases m <;> rfl

theorem maskGrid_read_eq_maskedCell (k : BitVec 3) (n : Nat) (g : Grid) (r c : Nat) :
    (maskGrid qrTables k.toNat n g).read r c = maskedCell k n r c (g.read r c) := by
  have hmask : qrTables.mask k.toNat r c = maskCondition k r c := maskPredicate_eq_maskCondition k r c
  simp only [maskGrid_read, hmask, maskedCell, and_assoc]

/-- The mask reads function bits and coordinates alone, so it flips the same modules again, and two flips of a
Light or Dark module leave its tag (R403). -/
theorem maskGrid_maskGrid_read (T : QrTables) (k : Nat) {n : Nat} {g : Grid} (h : ∀ r c, r < n → c < n →
    (g.read r c).fn = false → (g.read r c).tag.LightDark) (r c : Nat) :
    (maskGrid T k n (maskGrid T k n g)).read r c = g.read r c := by
  rw [maskGrid_read, (retagged_maskGrid T k n g).fn, maskGrid_read]
  by_cases hflip : (r < n ∧ c < n) ∧ (g.read r c).fn = false ∧ T.mask k r c = true
  · have hlightDark := h r c hflip.1.1 hflip.1.2 hflip.2.1
    simp only [if_pos hflip]
    generalize g.read r c = m at hlightDark ⊢
    obtain ⟨tag, fn⟩ := m
    obtain rfl | rfl : tag = .light ∨ tag = .dark := hlightDark <;> rfl
  · rw [if_neg hflip, if_neg hflip]

/-- What MASKAPPLY leaves of a placed grid (R381). -/
def State.maskApplied (s : State) (T : QrTables) (k : BitVec 3) : State :=
  { s with
    grid := maskGrid T k.toNat s.gridSide s.grid
    gridstat := { s.gridstat with sel := false, final := false } }

theorem execUnder_maskapply {s : State} (T : QrTables) (k : BitVec 3) (h : s.gridstat.readyMask = true) :
    execUnder (.maskapply k) s T = .next (completed (s.maskApplied T k)) := by
  show finish s (staged s.gridstat.readyMask (s.maskApplied T k)) = _
  rw [h, staged_true, finish_ok]
  rfl

end Sys2Proof.Machine
end

section
/-! PROOFS of the family "mask_format": O42 and O43. -/

namespace Sys2Proof.Proofs

open Sys2Proof.Machine Sys2Proof.Claims

/-- Settles O42: the mask is applied to every module of the symbol once. -/
theorem maskapplyResult : Obligations.MaskapplyResult := by
  unfold Obligations.MaskapplyResult
  intro s k
  exact ⟨fun hvalid hplaced => ⟨maskGrid qrTables k.toNat s.gridSide s.grid,
      exec_of_ready (i := .maskapply k) rfl (GridStat.readyMask_iff.mpr ⟨hvalid, hplaced⟩),
      maskGrid_read_eq_maskedCell k s.gridSide s.grid⟩,
    fun h => exec_of_not_ready (i := .maskapply k) rfl (GridStat.readyMask_eq_false_iff.mpr h)⟩

/-- Settles O43: the same modules are flipped both times; the spec's tables are one case of `T`. -/
theorem maskingTwiceRestores : Obligations.MaskingTwiceRestores := by
  unfold Obligations.MaskingTwiceRestores
  intro s k hvalid hplaced hdata
  have hready : s.gridstat.readyMask = true := GridStat.readyMask_iff.mpr ⟨hvalid, hplaced⟩
  have hunder (T : QrTables) : ∃ t u, execUnder (.maskapply k) s T = .next t ∧ t.status.err = false ∧
      execUnder (.maskapply k) t T = .next u ∧ u.status.err = false ∧
      ∀ r c, u.grid.read r c = s.grid.read r c :=
    ⟨_, _, execUnder_maskapply T k hready, rfl, execUnder_maskapply T k hready, rfl,
      maskGrid_maskGrid_read T k.toNat hdata⟩
  refine ⟨?_, fun T => ?_⟩
  · obtain ⟨t, u, hfirst, herr, hsecond, hrest⟩ := hunder qrTables
    rw [execUnder_default] at hfirst hsecond
    exact ⟨u, (sequence_cons_of_next hfirst herr).trans (sequence_singleton_of_next hsecond), hrest⟩
  · obtain ⟨t, u, hfirst, -, hsecond, hrest⟩ := hunder T
    exact ⟨t, u, hfirst, hsecond, hrest⟩

end Sys2Proof.Proofs
end

section
/-! PROOFS of the family "mask_format". The format and version words in their regions, and the candidates
module by module (R317, R321, R382, R391, R399). -/

namespace Sys2Proof.Machine

open Sys2Proof.Claims

/-! ### A word written at two places (R395, R400) -/

section pairs
variable {p q : Nat → Nat × Nat} {w : Nat → Bool} {i : Nat} {x : Nat × Nat}

theorem writePair_read_self (g : Grid) (hx : x = p i ∨ x = q i) :
    (writePair p q w g i).read x.1 x.2 = { g.read x.1 x.2 with tag := bitTag (w i) } := by
  have hset (g : Grid) (y : Nat × Nat) : (g.setTag y.1 y.2 (bitTag (w i))).read x.1 x.2 =
      if x = y then { g.read x.1 x.2 with tag := bitTag (w i) } else g.read x.1 x.2 := by
    by_cases hxy : x = y
    · rw [if_pos hxy, hxy]
      exact (Grid.read_setTag _ _ _ _ _ (bitTag_ne_unset _)).trans (if_pos ⟨rfl, rfl⟩)
    · rw [if_neg hxy]
      exact Grid.read_setTag_of_ne (bitTag_ne_unset _) hxy
  rw [writePair, hset, hset]
  obtain hp | hq := hx
  · rw [if_pos hp, ite_self]
  · rw [if_pos hq]
    split <;> rfl

theorem foldl_writePair_read_of_mem {l : List Nat} (g : Grid) (hi : i ∈ l) (hx : x = p i ∨ x = q i)
    (hapart : ∀ j ∈ l, j ≠ i → x ≠ p j ∧ x ≠ q j) :
    (l.foldl (writePair p q w) g).read x.1 x.2 = { g.read x.1 x.2 with tag := bitTag (w i) } := by
  induction l generalizing g with
  | nil => simp at hi
  | cons j l ih =>
    have hl : ∀ j ∈ l, j ≠ i → x ≠ p j ∧ x ≠ q j := fun j hj => hapart j (List.mem_cons_of_mem _ hj)
    rw [List.foldl_cons]
    by_cases hmem : i ∈ l
    · have hfn := (retagged_writePair (p := p) (q := q) (w := w) g j).fn x.1 x.2
      exact (ih _ hmem hl).trans (congrArg (GridCell.mk _) hfn)
    · obtain rfl : i = j := (List.mem_cons.mp hi).resolve_right hmem
      rw [foldl_writePair_read_of_ne _ fun j hj => hl j hj fun h => hmem (h ▸ hj),
        writePair_read_self g hx]

/-- No module is written for two bits of a word of `len` bits. -/
def WrittenApart (len : Nat) (p q : Nat → Nat × Nat) : Prop :=
  ∀ i < len, ∀ j < len, j ≠ i → (p i ≠ p j ∧ p i ≠ q j) ∧ q i ≠ p j ∧ q i ≠ q j

theorem bitsWritten_foldl_writePair {len : Nat} (hapart : WrittenApart len p q) (g : Grid) :
    BitsWritten g ((List.range len).foldl (writePair p q w) g) len w p q := by
  refine ⟨fun i hi => ⟨?_, ?_⟩, fun r c h => foldl_writePair_read_of_ne g fun i hi =>
    h i (List.mem_range.mp hi)⟩
  · exact foldl_writePair_read_of_mem g (List.mem_range.mpr hi) (.inl rfl) fun j hj hji =>
      (hapart i hi j (List.mem_range.mp hj) hji).1
  · exact foldl_writePair_read_of_mem g (List.mem_range.mpr hi) (.inr rfl) fun j hj hji =>
      (hapart i hi j (List.mem_range.mp hj) hji).2

end pairs

/-! ### The regions (R317, R321) -/

section regions
variable {v n : Nat}

theorem formatF1_eq_f1 : formatF1 = f1 := by
  funext i
  simp only [formatF1, f1, Nat.lt_succ_iff]

theorem formatF2_eq_f2 (n : Nat) : formatF2 n = f2 n := by
  funext i
  simp only [formatF2, f2, Nat.lt_succ_iff]

theorem writtenApart_format (hn : 17 ≤ n) : WrittenApart 15 f1 (f2 n) := by
  intro i hi j hj hij
  simp only [f1, f2, ne_eq]
  split_ifs <;> simp only [Prod.mk.injEq] <;> omega

theorem writtenApart_version (hn : 17 ≤ n) : WrittenApart 18 (va n) (vb n) := by
  intro i hi j hj hij
  simp only [va, vb, ne_eq, Prod.mk.injEq]
  omega

theorem bitsWritten_writeFormat (hn : 17 ≤ n) (w : BitVec 15) (g : Grid) :
    BitsWritten g (writeFormat n w g) 15 w.getLsbD f1 (f2 n) := by
  rw [writeFormat_eq_foldl, formatF1_eq_f1, formatF2_eq_f2]
  exact bitsWritten_foldl_writePair (writtenApart_format hn) g

theorem bitsWritten_writeVersion (hv : 7 ≤ v) (hn : 17 ≤ n) (g : Grid) :
    BitsWritten g (writeVersion v n g) 18 (versionWord v).getLsbD (va n) (vb n) := by
  rw [writeVersion_eq_foldl hv]
  exact bitsWritten_foldl_writePair (writtenApart_version hn) g

theorem writeVersion_of_lt (hv : v < 7) (n : Nat) (g : Grid) : writeVersion v n g = g :=
  if_neg hv.not_ge

/-- The version regions, three modules wide, do not meet the format regions. -/
theorem format_ne_version (hn : 20 ≤ n) {i j : Nat} (hi : i < 15) (hj : j < 18) :
    (f1 i ≠ va n j ∧ f1 i ≠ vb n j) ∧ f2 n i ≠ va n j ∧ f2 n i ≠ vb n j := by
  simp only [f1, f2, va, vb, ne_eq]
  split_ifs <;> simp only [Prod.mk.injEq] <;> omega

end regions

/-! ### Candidates (R382) -/

section candidates
variable {v n : Nat} {e : EccLevel} {k : BitVec 3} {g : Grid} {r c : Nat}

theorem candidate_eq_writeVersion (hn : n = 4 * v + 17) : candidate qrTables v e k.toNat g =
    writeVersion v n (writeFormat n (formatWord e k.toNat) (maskGrid qrTables k.toNat n g)) := by
  rw [hn]
  rfl

theorem writeVersion_read_of_ne (hn : 17 ≤ n)
    (h : 7 ≤ v → ∀ i, i < 18 → (r, c) ≠ va n i ∧ (r, c) ≠ vb n i) :
    (writeVersion v n g).read r c = g.read r c := by
  by_cases hv : 7 ≤ v
  · exact (bitsWritten_writeVersion hv hn g).2 r c (h hv)
  · rw [writeVersion_of_lt (Nat.lt_of_not_le hv)]

theorem candidate_tag_format (hn : n = 4 * v + 17) {i : Nat} (hi : i < 15)
    (hrc : (r, c) = f1 i ∨ (r, c) = f2 n i) :
    ((candidate qrTables v e k.toNat g).read r c).tag = darkIf ((formatWord e k.toNat).getLsbD i) := by
  have hapart (hv : 7 ≤ v) (j : Nat) (hj : j < 18) : (r, c) ≠ va n j ∧ (r, c) ≠ vb n j := by
    have hne := format_ne_version (n := n) (by omega) hi hj
    obtain hrc | hrc := hrc <;> rw [hrc]
    exacts [hne.1, hne.2]
  have hword := (bitsWritten_writeFormat (n := n) (by omega) (formatWord e k.toNat)
    (maskGrid qrTables k.toNat n g)).1 i hi
  rw [candidate_eq_writeVersion hn, writeVersion_read_of_ne (by omega) hapart]
  obtain hrc | hrc := hrc <;> obtain ⟨rfl, rfl⟩ := Prod.ext_iff.mp hrc
  · exact congrArg GridCell.tag hword.1
  · exact congrArg GridCell.tag hword.2

theorem candidate_read_of_ne (hn : n = 4 * v + 17)
    (hfmt : ∀ i, i < 15 → (r, c) ≠ f1 i ∧ (r, c) ≠ f2 n i)
    (hver : 7 ≤ v → ∀ i, i < 18 → (r, c) ≠ va n i ∧ (r, c) ≠ vb n i) :
    (candidate qrTables v e k.toNat g).read r c = maskedCell k n r c (g.read r c) := by
  rw [candidate_eq_writeVersion hn, writeVersion_read_of_ne (by omega) hver,
    (bitsWritten_writeFormat (by omega) _ _).2 r c hfmt, maskGrid_read_eq_maskedCell]

/-- The writes of FINALIZE are those that make the candidate (R402). -/
theorem State.finalized_eq (s : State) (T : QrTables) (k : BitVec 3) :
    (((s.doMask T k).doFmtwrite k).doVerwrite).markFinal =
      { s with
        grid := candidate T s.gverNat s.config.ecl k.toNat s.grid
        fmtbits := formatWord s.config.ecl k.toNat
        verbits := if 7 ≤ s.gverNat then versionWord s.gverNat else 0
        gridstat := { s.gridstat with final := true, sel := false } } := by
  simp only [State.markFinal, State.doVerwrite, State.doFmtwrite, State.doMask, State.gridSide,
    State.gverNat, candidate]
  rfl

end candidates

end Sys2Proof.Machine
end

section
/-! PROOFS of the family "mask_format": O44, O50, and O52 to O54. -/

namespace Sys2Proof.Proofs

open Sys2Proof.Machine Sys2Proof.Claims

/-- Settles O44: the version word is written last, outside the format regions. -/
theorem candidateModules : Obligations.CandidateModules := by
  unfold Obligations.CandidateModules
  intro v n e k g _ _ hn
  refine ⟨fun i hi => ⟨candidate_tag_format hn hi (.inl rfl), candidate_tag_format hn hi (.inr rfl)⟩,
    fun hv i hi => ?_, fun r c => ⟨(retagged_candidate qrTables v e k.toNat g).fn r c,
      candidate_read_of_ne hn⟩⟩
  rw [candidate_eq_writeVersion hn]
  exact ((bitsWritten_writeVersion hv (by omega) _).1 i hi).imp (congrArg GridCell.tag)
    (congrArg GridCell.tag)

/-- Settles O50: NOP and FMTENC have no check, and VERENC has that of the version. -/
theorem nopAndEncodersResult : Obligations.NopAndEncodersResult := by
  unfold Obligations.NopAndEncodersResult
  intro s
  exact ⟨exec_of_ok (i := .nop) rfl, fun k => exec_of_ok (i := .fmtenc k) rfl,
    fun hpos hmax => exec_of_ok (i := .verenc)
      (verencBody_eq_ok.mpr ⟨legalVersion_iff.mpr ⟨hpos, hmax⟩, rfl⟩),
    fun h => exec_of_raiseError (i := .verenc) (c := .range)
      (if_neg (Bool.eq_false_iff.mp (legalVersion_eq_false h)))⟩

/-- Settles O52: the 30 format modules are distinct, so each keeps the bit written to it. -/
theorem fmtwriteResult : Obligations.FmtwriteResult := by
  unfold Obligations.FmtwriteResult
  rintro s k _ rfl
  exact ⟨fun hvalid hfmt => ⟨(s.doFmtwrite k).grid,
      exec_of_ready (i := .fmtwrite k) rfl (Bool.and_eq_true_iff.mpr ⟨hvalid, hfmt⟩),
      bitsWritten_writeFormat s.gridSide_ge_17 _ s.grid⟩,
    fun h => exec_of_not_ready (i := .fmtwrite k) rfl (Bool.and_eq_false_iff.mpr h)⟩

/-- Settles O53: the 36 version modules are distinct, and below version 7 none is written. -/
theorem verwriteResult : Obligations.VerwriteResult := by
  unfold Obligations.VerwriteResult
  rintro s _ _ rfl rfl
  have hexec (hvalid : s.gridstat.valid = true) (hver : s.gridstat.sVer = true) :
      exec .verwrite s = .next (completed s.doVerwrite) :=
    exec_of_ready (i := .verwrite) rfl (Bool.and_eq_true_iff.mpr ⟨hvalid, hver⟩)
  refine ⟨fun hvalid hver hv =>
      ⟨s.doVerwrite.grid, ?_, bitsWritten_writeVersion hv s.gridSide_ge_17 s.grid⟩,
    fun hvalid hver hv => ?_,
    fun h => exec_of_not_ready (i := .verwrite) rfl (Bool.and_eq_false_iff.mpr h)⟩
  · rw [hexec hvalid hver, State.doVerwrite, State.gverNat, if_pos hv]
  · rw [hexec hvalid hver, State.doVerwrite, State.gverNat, if_neg hv.not_ge, writeVersion_of_lt hv]

/-- Settles O54: the writes of FINALIZE are those that make the candidate of the selected mask. -/
theorem finalizeResult : Obligations.FinalizeResult := by
  unfold Obligations.FinalizeResult
  rintro s _ rfl
  refine ⟨fun hvalid hplaced hsel hfinal => ?_,
    fun h => exec_of_not_ready (i := .finalize) rfl (GridStat.readyFinalize_eq_false_iff.mpr h)⟩
  rw [exec_of_ready (i := .finalize) rfl
    (GridStat.readyFinalize_iff.mpr ⟨hvalid, hplaced, hsel, hfinal⟩), State.finalized_eq]
  rfl

end Sys2Proof.Proofs
end

section
/-! PROOFS of the family "mask_format". The least of a list and the penalty registers (R387, R388). -/

namespace Sys2Proof.Machine

open Sys2Proof.Claims

/-! ### The least of a list (R388) -/

section least
variable {p : List Nat}

theorem min?_eq_leastOf (hp : p ≠ []) : p.min? = some (leastOf p) := by
  obtain ⟨a, l, rfl⟩ := List.exists_cons_of_ne_nil hp
  rw [List.min?_cons', leastOf, List.headD_cons, List.foldl_cons, Nat.min_self]

theorem leastOf_mem (hp : p ≠ []) : leastOf p ∈ p :=
  (List.min?_eq_some_iff.mp (min?_eq_leastOf hp)).1

theorem leastOf_le {x : Nat} (hx : x ∈ p) : leastOf p ≤ x :=
  (List.min?_eq_some_iff.mp (min?_eq_leastOf (List.ne_nil_of_mem hx))).2 x hx

theorem leastIndex_lt (hp : p ≠ []) : leastIndex p < p.length :=
  List.findIdx_lt_length_of_exists ⟨leastOf p, leastOf_mem hp, beq_self_eq_true _⟩

theorem getElem_leastIndex (h : leastIndex p < p.length) : p[leastIndex p] = leastOf p :=
  beq_iff_eq.mp (List.findIdx_getElem (w := h))

theorem leastOf_lt_of_lt_leastIndex {j : Nat} (hj : j < leastIndex p) (hlen : j < p.length) :
    leastOf p < p[j] :=
  (leastOf_le (List.getElem_mem hlen)).lt_of_ne fun h =>
    beq_eq_false_iff_ne.mp (List.not_of_lt_findIdx hj) h.symm

/-- In a list given by index, the first index of the least value. -/
theorem leastIndex_map_range (f : Nat → Nat) {n : Nat} (hn : 0 < n) :
    ∃ b < n, leastIndex ((List.range n).map f) = b ∧ (∀ j < n, f b ≤ f j) ∧ ∀ j < b, f b < f j := by
  have hlt := leastIndex_lt (p := (List.range n).map f) (by simpa using hn.ne')
  have hleast : f (leastIndex ((List.range n).map f)) = leastOf ((List.range n).map f) := by
    simpa using getElem_leastIndex hlt
  have hbound : leastIndex ((List.range n).map f) < n := by simpa using hlt
  refine ⟨_, hbound, rfl, fun j hj => ?_, fun j hj => ?_⟩
  · exact hleast ▸ leastOf_le (List.mem_map_of_mem (List.mem_range.mpr hj))
  · have hbefore := leastOf_lt_of_lt_leastIndex hj (hj.trans hlt)
    rwa [List.getElem_map, List.getElem_range, ← hleast] at hbefore

end least

/-! ### The penalty registers (R387, R388) -/

theorem State.getElem_setPen (s : State) (k : BitVec 3) (w : Word) (j : Fin 8) :
    (s.setPen k w).pen[j] = if j.val = k.toNat then w else s.pen[j] := by
  simp [State.setPen, Vector.getElem_set, eq_comm (a := j.val)]

theorem getElem_penVector (p : Nat → Nat) (j : Fin 8) :
    (penVector ((List.range 8).map p))[j] = BitVec.ofNat 32 (p j.val) := by
  fin_cases j <;> rfl

end Sys2Proof.Machine
end

section
/-! PROOFS of the family "mask_format": O48, O49 and O55. -/

namespace Sys2Proof.Proofs

open Sys2Proof.Machine Sys2Proof.Claims

/-- Settles O48: the penalty of the candidate goes to one of the eight registers. -/
theorem scoreResult : Obligations.ScoreResult := by
  unfold Obligations.ScoreResult
  rintro s k _ rfl
  exact ⟨fun hvalid hplaced => ⟨(s.setPen k (BitVec.ofNat 32 (s.candidatePenalty qrTables k.toNat))).pen,
      exec_of_ready (i := .score k) rfl (GridStat.readyMask_iff.mpr ⟨hvalid, hplaced⟩),
      s.getElem_setPen k _⟩,
    fun h => exec_of_not_ready (i := .score k) rfl (GridStat.readyMask_eq_false_iff.mpr h)⟩

/-- Settles O49: the index SELECT finds is the first at which the least penalty stands. -/
theorem selectResult : Obligations.SelectResult := by
  unfold Obligations.SelectResult
  rintro s _ p rfl hp
  have hall : s.allPenalties qrTables = (List.range 8).map p :=
    List.map_congr_left fun k _ => (hp k).symm
  refine ⟨fun hvalid hplaced => ?_,
    fun h => exec_of_not_ready (i := .select) rfl (GridStat.readyMask_eq_false_iff.mpr h)⟩
  have hexec : exec .select s = .next (completed (s.withSelection ((List.range 8).map p))) :=
    hall ▸ exec_of_ready (i := .select) rfl (GridStat.readyMask_iff.mpr ⟨hvalid, hplaced⟩)
  obtain ⟨best, hbest, hindex, hleast, hfirst⟩ := leastIndex_map_range p (n := 8) (by decide)
  have htoNat : (BitVec.ofNat 3 best).toNat = best :=
    (BitVec.toNat_ofNat _ _).trans (Nat.mod_eq_of_lt hbest)
  refine ⟨penVector ((List.range 8).map p), BitVec.ofNat 3 best, ?_, getElem_penVector p, ?_⟩
  · rw [hexec, State.withSelection, hindex]
  · rw [htoNat]
    exact ⟨hleast, hfirst⟩

/-- Settles O55: SELECT leaves the grid as it is, and FINALIZE takes the candidate it chose. -/
theorem finalizedSymbolHasLeastPenalty : Obligations.FinalizedSymbolHasLeastPenalty := by
  unfold Obligations.FinalizedSymbolHasLeastPenalty
  rintro s _ _ rfl rfl hvalid hplaced hfinal
  obtain ⟨pen, best, hselect, hpen, hleast, -⟩ := (selectResult s _ _ rfl fun _ => rfl).1 hvalid hplaced
  exact ⟨_, (sequence_cons_of_next hselect rfl).trans (sequence_singleton_of_next
      ((finalizeResult _ _ rfl).1 hvalid hplaced rfl hfinal)), rfl, rfl, hpen best.toFin, hleast⟩

end Sys2Proof.Proofs
end

section
/-! PROOFS of the family "mask_format". The penalty rules as counts of windows: sums over a line, the lines of a
matrix, runs, blocks, finder-like windows and the balance (R383 to R386). -/

namespace Sys2Proof.Machine

open Sys2Proof.Claims

/-! ### Sums over the first indices -/

section sums
variable {n : Nat} {f g : Nat → Nat}

theorem sumTo_eq_sum (n : Nat) (f : Nat → Nat) : sumTo n f = ∑ i ∈ Finset.range n, f i := rfl

@[simp] theorem sumTo_zero (f : Nat → Nat) : sumTo 0 f = 0 := rfl

theorem sumTo_succ_left (n : Nat) (f : Nat → Nat) :
    sumTo (n + 1) f = f 0 + sumTo n fun i => f (i + 1) := by
  simp only [sumTo_eq_sum, Finset.sum_range_succ', Nat.add_comm]

theorem sumTo_congr (h : ∀ i < n, f i = g i) : sumTo n f = sumTo n g :=
  Finset.sum_congr rfl fun i hi => h i (Finset.mem_range.mp hi)

/-- Leading terms that are 0 can be left out. -/
theorem sumTo_drop {k : Nat} (h : ∀ i < k, f i = 0) : sumTo n f = sumTo (n - k) fun i => f (i + k) := by
  obtain hn | hn := Nat.le_total n k
  · rw [Nat.sub_eq_zero_of_le hn]
    exact Finset.sum_eq_zero fun i hi => h i ((Finset.mem_range.mp hi).trans_le hn)
  · obtain ⟨m, rfl⟩ := Nat.exists_eq_add_of_le hn
    have hzero : ∑ i ∈ Finset.range k, f i = 0 :=
      Finset.sum_eq_zero fun i hi => h i (Finset.mem_range.mp hi)
    rw [sumTo_eq_sum, Finset.sum_range_add, hzero, Nat.zero_add, Nat.add_sub_cancel_left]
    exact sumTo_congr fun i _ => congrArg f (Nat.add_comm k i)

theorem sumTo_le {m b : Nat} (hn : n ≤ m) (hf : ∀ i < n, f i ≤ b) : sumTo n f ≤ m * b := by
  have hsum : sumTo n f ≤ n * b := by
    simpa [sumTo_eq_sum] using Finset.sum_le_card_nsmul (Finset.range n) f b (by simpa using hf)
  exact hsum.trans (Nat.mul_le_mul_right b hn)

end sums

theorem map_range_succ_left {α : Type} (n : Nat) (f : Nat → α) :
    (List.range (n + 1)).map f = f 0 :: (List.range n).map fun i => f (i + 1) := by
  rw [List.range_succ_eq_map, List.map_cons, List.map_map]
  rfl

/-! ### The lines of a matrix -/

section lines
variable (n : Nat) (f : Nat → Nat → Bool)

theorem columnsOf_matrixOf : columnsOf (matrixOf n f) = matrixOf n fun r c => f c r := by
  have hentry (r : Nat) {c : Nat} (hc : c < n) : ((List.range n).map (f r)).getD c false = f r c := by
    simp [List.getD_eq_getElem?_getD, List.getElem?_range hc]
  simp only [columnsOf, matrixOf, List.length_map, List.length_range, List.map_map]
  refine List.map_congr_left fun c hc => List.map_congr_left fun r _ => ?_
  exact hentry r (List.mem_range.mp hc)

theorem sum_matrixOf (F : List Bool → Nat) : ((matrixOf n f).map F).sum =
    sumTo n fun r => F ((List.range n).map (f r)) := by
  rw [matrixOf, List.map_map]
  rfl

/-- What the lines add is what the rows add and what the columns add. -/
theorem sum_linesOf_matrixOf (F : List Bool → Nat) : ((linesOf (matrixOf n f)).map F).sum =
    sumTo n (fun r => F ((List.range n).map (f r))) +
    sumTo n (fun c => F ((List.range n).map fun r => f r c)) := by
  rw [linesOf, List.map_append, List.sum_append, columnsOf_matrixOf, sum_matrixOf, sum_matrixOf]

end lines

/-! ### Runs (R383) -/

section runs
variable (line : Nat → Bool)

/-- The length of the run of equal modules up to and with position `i`. -/
def runLengthAt : Nat → Nat
  | 0 => 1
  | i + 1 => if line (i + 1) = line i then runLengthAt i + 1 else 1

/-- What a run adds when it grows to `len` modules. -/
def runGrowth (len : Nat) : Nat := if len = 5 then 3 else if 5 < len then 1 else 0

theorem runPenalty_qrTables (len : Nat) :
    runPenalty qrTables len = if 5 ≤ len then 3 + (len - 5) else 0 := rfl

theorem runPenalty_succ (len : Nat) :
    runPenalty qrTables (len + 1) = runPenalty qrTables len + runGrowth (len + 1) := by
  rw [runPenalty_qrTables, runPenalty_qrTables, runGrowth]
  split_ifs <;> omega

theorem runLengthAt_pos (i : Nat) : 0 < runLengthAt line i := by
  cases i with
  | zero => exact Nat.one_pos
  | succ i =>
    unfold runLengthAt
    split <;> omega

theorem runLengthAt_le (i : Nat) : runLengthAt line i ≤ i + 1 := by
  induction i with
  | zero => exact Nat.le_refl 1
  | succ i ih =>
    unfold runLengthAt
    split <;> omega

theorem runLengthAt_eq_one_iff (i : Nat) :
    runLengthAt line i = 1 ↔ i = 0 ∨ line (i - 1) ≠ line i := by
  cases i with
  | zero => simp [runLengthAt]
  | succ i =>
    have hpos := runLengthAt_pos line i
    by_cases hsame : line (i + 1) = line i
    · simp [runLengthAt, hsame, hpos.ne']
    · simp [runLengthAt, hsame, Ne.symm hsame]

/-- The rest of a line, after a run that goes on at `i`, adds what its runs add as they grow. -/
theorem sum_runLengthsFrom (i m : Nat) :
    ((runLengthsFrom (line i) (runLengthAt line i) ((List.range' (i + 1) m).map line)).map
      (runPenalty qrTables)).sum =
    runPenalty qrTables (runLengthAt line i) +
      ((List.range' (i + 1) m).map fun j => runGrowth (runLengthAt line j)).sum := by
  induction m generalizing i with
  | zero => rfl
  | succ m ih =>
    have hrest := ih (i + 1)
    simp only [List.range'_succ, List.map_cons, List.sum_cons, runLengthsFrom]
    by_cases hsame : line (i + 1) = line i
    · have hlen : runLengthAt line (i + 1) = runLengthAt line i + 1 := if_pos hsame
      rw [hlen, hsame, runPenalty_succ] at hrest
      rw [if_pos hsame, hrest, hlen, Nat.add_assoc]
    · have hlen : runLengthAt line (i + 1) = 1 := if_neg hsame
      rw [hlen] at hrest
      rw [if_neg hsame, List.map_cons, List.sum_cons, hrest, hlen]
      rfl

theorem sum_runLengths (n : Nat) :
    ((runLengths ((List.range n).map line)).map (runPenalty qrTables)).sum =
      sumTo n fun i => runGrowth (runLengthAt line i) := by
  cases n with
  | zero => rfl
  | succ n =>
    rw [sumTo, List.range_eq_range', List.range'_succ]
    exact sum_runLengthsFrom line 0 n

theorem uniform_iff_adjacent {α : Type} {a b c d e : α} :
    (a = b ∧ a = c ∧ a = d ∧ a = e) ↔ b = a ∧ c = b ∧ d = c ∧ e = d := by
  constructor
  · rintro ⟨rfl, rfl, rfl, rfl⟩
    exact ⟨rfl, rfl, rfl, rfl⟩
  · rintro ⟨rfl, rfl, rfl, rfl⟩
    exact ⟨rfl, rfl, rfl, rfl⟩

/-- The run that covers a window of five has five modules or more at the window's end, and exactly five where
it begins with the window. -/
theorem runGrowth_runLengthAt (i : Nat) : runGrowth (runLengthAt line (i + 4)) = runAt line i := by
  unfold runAt
  split
  case isTrue huniform =>
    obtain ⟨h₁, h₂, h₃, h₄⟩ := uniform_iff_adjacent.mp huniform
    have hlen : runLengthAt line (i + 4) = runLengthAt line i + 4 := by
      simp only [runLengthAt, h₁, h₂, h₃, h₄, if_true]
    have hpos := runLengthAt_pos line i
    simp only [hlen, runGrowth, ← runLengthAt_eq_one_iff]
    split_ifs <;> omega
  case isFalse hmixed =>
    rw [uniform_iff_adjacent] at hmixed
    have hlen : runLengthAt line (i + 4) ≤ 4 := by
      simp only [runLengthAt]
      split_ifs with h₄ h₃ h₂ h₁
      · exact absurd ⟨h₁, h₂, h₃, h₄⟩ hmixed
      all_goals decide
    rw [runGrowth, if_neg (by omega), if_neg (by omega)]

/-- What the runs of a line add, window by window. -/
theorem sum_runPenalty_line (n : Nat) :
    ((runLengths ((List.range n).map line)).map (runPenalty qrTables)).sum =
      sumTo (n - 4) (runAt line) := by
  have hshort (i : Nat) (hi : i < 4) : runGrowth (runLengthAt line i) = 0 := by
    have hle := runLengthAt_le line i
    rw [runGrowth, if_neg (by omega), if_neg (by omega)]
  rw [sum_runLengths, sumTo_drop hshort]
  exact sumTo_congr fun i _ => runGrowth_runLengthAt line i

end runs

/-! ### Blocks (R384) -/

theorem uniformWindows_map_range (a b : Nat → Bool) (n : Nat) :
    uniformWindows ((List.range (n + 1)).map a) ((List.range (n + 1)).map b) =
      sumTo n fun c => if a c = a (c + 1) ∧ a c = b c ∧ a c = b (c + 1) then 1 else 0 := by
  induction n generalizing a b with
  | zero => rfl
  | succ n ih =>
    have hrest := ih (fun c => a (c + 1)) fun c => b (c + 1)
    simp only [map_range_succ_left] at hrest ⊢
    rw [uniformWindows, hrest, sumTo_succ_left]

theorem uniformBlocks_map_range (row : Nat → List Bool) (n : Nat) :
    uniformBlocks ((List.range (n + 1)).map row) = sumTo n fun r => uniformWindows (row r) (row (r + 1)) := by
  induction n generalizing row with
  | zero => rfl
  | succ n ih =>
    have hrest := ih fun r => row (r + 1)
    simp only [map_range_succ_left] at hrest ⊢
    rw [uniformBlocks, hrest, sumTo_succ_left]

theorem penaltyBlocks_matrixOf (n : Nat) (f : Nat → Nat → Bool) : penaltyBlocks qrTables (matrixOf n f) =
    3 * sumTo (n - 1) fun r => sumTo (n - 1) fun c =>
      if f r c = f r (c + 1) ∧ f r c = f (r + 1) c ∧ f r c = f (r + 1) (c + 1) then 1 else 0 := by
  cases n with
  | zero => rfl
  | succ n =>
    have hpenalty : penaltyBlocks qrTables (matrixOf (n + 1) f) = 3 * uniformBlocks (matrixOf (n + 1) f) := rfl
    rw [hpenalty, matrixOf, uniformBlocks_map_range]
    simp only [uniformWindows_map_range, Nat.add_sub_cancel]

/-! ### Finder-like windows (R385) -/

theorem countWindows_map_range {pat : List Bool} (hpat : pat ≠ []) (line : Nat → Bool) (n : Nat) :
    countWindows pat ((List.range n).map line) = sumTo (n + 1 - pat.length) fun i =>
      if (List.range pat.length).map (fun j => line (i + j)) = pat then 1 else 0 := by
  have hpos : 0 < pat.length := List.length_pos_iff.mpr hpat
  induction n generalizing line with
  | zero =>
    rw [Nat.sub_eq_zero_of_le (by omega)]
    rfl
  | succ n ih =>
    have hcons : countWindows pat ((List.range (n + 1)).map line) =
        (if ((List.range (n + 1)).map line).take pat.length = pat then 1 else 0) +
          countWindows pat ((List.range n).map fun i => line (i + 1)) := by
      rw [map_range_succ_left, countWindows]
    rw [hcons, ih, ← List.map_take, List.take_range]
    by_cases hfits : pat.length ≤ n + 1
    · have hsucc : n + 1 + 1 - pat.length = n + 1 - pat.length + 1 := by omega
      rw [hsucc, sumTo_succ_left, Nat.min_eq_left hfits]
      simp only [Nat.zero_add, Nat.add_right_comm _ 1]
    · have hshort : (List.range (min pat.length (n + 1))).map line ≠ pat := fun h => by
        have hlen := congrArg List.length h
        rw [List.length_map, List.length_range] at hlen
        omega
      rw [if_neg hshort, Nat.sub_eq_zero_of_le (by omega), Nat.sub_eq_zero_of_le (by omega)]
      rfl

theorem finderLikePenalty_map_range (line : Nat → Bool) (n : Nat) :
    finderLikePenalty qrTables ((List.range n).map line) = sumTo (n - 10) (finderAtWindow line) := by
  have hA := countWindows_map_range (pat := windowA) (by decide) line n
  have hB := countWindows_map_range (pat := windowB) (by decide) line n
  have hpenalty : finderLikePenalty qrTables ((List.range n).map line) = 40 *
      (countWindows windowA ((List.range n).map line) + countWindows windowB ((List.range n).map line)) := rfl
  have hlength : windowA.length = 11 ∧ windowB.length = 11 := by decide
  simp only [hlength, Nat.reduceSubDiff] at hA hB
  rw [hpenalty, hA, hB, Nat.mul_add]
  simp only [sumTo_eq_sum, Finset.mul_sum, ← Finset.sum_add_distrib, finderAtWindow, mul_ite, Nat.mul_one,
    Nat.mul_zero]

/-! ### Balance (R386) -/

section balance
variable (n : Nat) (f : Nat → Nat → Bool)

theorem countP_map_range (line : Nat → Bool) (n : Nat) :
    ((List.range n).map line).countP id = sumTo n fun i => if line i then 1 else 0 := by
  induction n generalizing line with
  | zero => rfl
  | succ n ih => rw [map_range_succ_left, List.countP_cons, ih, sumTo_succ_left, id, Nat.add_comm]

theorem darkCount_matrixOf :
    darkCount (matrixOf n f) = sumTo n fun r => sumTo n fun c => if f r c then 1 else 0 := by
  rw [darkCount, sum_matrixOf]
  exact sumTo_congr fun r _ => countP_map_range (f r) n

theorem darkCount_matrixOf_le : darkCount (matrixOf n f) ≤ n * n := by
  rw [darkCount_matrixOf]
  refine sumTo_le le_rfl fun r _ => (sumTo_le (b := 1) le_rfl fun c _ => ?_).trans_eq (Nat.mul_one n)
  split <;> decide

theorem penaltyBalance_matrixOf (hn : 1 ≤ n) : penaltyBalance qrTables (matrixOf n f) =
    10 * ((distance (20 * darkCount (matrixOf n f)) (10 * (n * n)) + (n * n - 1)) / (n * n) - 1) := by
  have hside : (matrixOf n f).length = n := by rw [matrixOf, List.length_map, List.length_range]
  have hbalance : penaltyBalance qrTables (matrixOf n f) =
      10 * ((absDiff (20 * darkCount (matrixOf n f)) (10 * ((matrixOf n f).length * (matrixOf n f).length)) +
        (matrixOf n f).length * (matrixOf n f).length - 1) /
          ((matrixOf n f).length * (matrixOf n f).length) - 1) := rfl
  rw [hbalance, hside, absDiff_eq_distance, Nat.add_sub_assoc (Nat.mul_pos hn hn)]

end balance

/-! ### The size of a penalty (R386) -/

section bounds
variable {n : Nat} (hn : n ≤ 177) (f : Nat → Nat → Bool)

theorem penaltyRuns_matrixOf (n : Nat) (f : Nat → Nat → Bool) : penaltyRuns qrTables (matrixOf n f) =
    sumTo n (fun r => sumTo (n - 4) (runAt (fun c => f r c))) +
    sumTo n (fun c => sumTo (n - 4) (runAt (fun r => f r c))) := by
  rw [penaltyRuns, sum_linesOf_matrixOf]
  simp only [sum_runPenalty_line]

theorem penaltyFinders_matrixOf (n : Nat) (f : Nat → Nat → Bool) : penaltyFinders qrTables (matrixOf n f) =
    sumTo n (fun r => sumTo (n - 10) (finderAtWindow (fun c => f r c))) +
    sumTo n (fun c => sumTo (n - 10) (finderAtWindow (fun r => f r c))) := by
  rw [penaltyFinders, sum_linesOf_matrixOf]
  simp only [finderLikePenalty_map_range]

theorem runAt_le (line : Nat → Bool) (i : Nat) : runAt line i ≤ 3 := by
  unfold runAt
  split_ifs <;> decide

theorem finderAtWindow_le (line : Nat → Bool) (i : Nat) : finderAtWindow line i ≤ 80 := by
  unfold finderAtWindow
  split_ifs <;> decide

include hn

/-- In a symbol of side at most 177 a sum over lines is at most 177 times 177 of its largest terms. -/
theorem sumTo_sumTo_le {k b : Nat} {g : Nat → Nat → Nat} (hk : k ≤ n) (hg : ∀ r c, g r c ≤ b) :
    sumTo n (fun r => sumTo k (g r)) ≤ 177 * (177 * b) :=
  sumTo_le hn fun r _ => sumTo_le (hk.trans hn) fun c _ => hg r c

theorem penaltyRuns_le : penaltyRuns qrTables (matrixOf n f) ≤ 2 * (177 * (177 * 3)) := by
  rw [penaltyRuns_matrixOf, Nat.two_mul]
  exact Nat.add_le_add (sumTo_sumTo_le hn (Nat.sub_le n 4) fun _ => runAt_le _)
    (sumTo_sumTo_le hn (Nat.sub_le n 4) fun _ => runAt_le _)

theorem penaltyBlocks_le : penaltyBlocks qrTables (matrixOf n f) ≤ 3 * (177 * (177 * 1)) := by
  rw [penaltyBlocks_matrixOf]
  refine Nat.mul_le_mul_left 3 (sumTo_sumTo_le ((Nat.sub_le n 1).trans hn) le_rfl fun r c => ?_)
  split <;> decide

theorem penaltyFinders_le : penaltyFinders qrTables (matrixOf n f) ≤ 2 * (177 * (177 * 80)) := by
  rw [penaltyFinders_matrixOf, Nat.two_mul]
  exact Nat.add_le_add (sumTo_sumTo_le hn (Nat.sub_le n 10) fun _ => finderAtWindow_le _)
    (sumTo_sumTo_le hn (Nat.sub_le n 10) fun _ => finderAtWindow_le _)

theorem penaltyBalance_le (hpos : 1 ≤ n) :
    penaltyBalance qrTables (matrixOf n f) ≤ 10 * (11 * (177 * 177)) := by
  have hdark := darkCount_matrixOf_le n f
  have hsquare : n * n ≤ 177 * 177 := Nat.mul_le_mul hn hn
  rw [penaltyBalance_matrixOf n f hpos]
  refine Nat.mul_le_mul_left 10 ((Nat.sub_le _ _).trans ((Nat.div_le_self _ _).trans ?_))
  unfold distance
  omega

end bounds

end Sys2Proof.Machine
end

section
/-! PROOFS of the family "mask_format": O45, O46 and O47. -/

namespace Sys2Proof.Proofs

open Sys2Proof.Machine Sys2Proof.Claims

/-- Settles O45: a run adds 3 when it grows to five modules and 1 for every module after. -/
theorem runPenaltyByWindows : Obligations.RunPenaltyByWindows := by
  unfold Obligations.RunPenaltyByWindows
  exact penaltyRuns_matrixOf

/-- Settles O46: the model walks the rows, the statement counts the windows by index. -/
theorem blockAndFinderPenaltyByWindows : Obligations.BlockAndFinderPenaltyByWindows := by
  unfold Obligations.BlockAndFinderPenaltyByWindows
  exact fun n f => ⟨penaltyBlocks_matrixOf n f, penaltyFinders_matrixOf n f⟩

/-- Settles O47: each of the four rules is far below `2 ^ 32` at side 177. -/
theorem penaltyTotalFits : Obligations.PenaltyTotalFits := by
  unfold Obligations.PenaltyTotalFits
  intro n f dark hpos hmax hdark
  rw [← darkCount_matrixOf] at hdark
  subst hdark
  refine ⟨penaltyBalance_matrixOf n f hpos, rfl, ?_⟩
  have hruns := penaltyRuns_le hmax f
  have hblocks := penaltyBlocks_le hmax f
  have hfinders := penaltyFinders_le hmax f
  have hbalance := penaltyBalance_le hmax f hpos
  unfold penalty
  omega

end Sys2Proof.Proofs
end

section
/-! PROOFS of the family "mask_format". The distance of two words, and the format and version codes (R390, R392,
R394, R397). -/

namespace Sys2Proof.Machine

open Sys2Proof.Claims

/-! ### The distance of two words -/

section distance
variable {w : Nat}

theorem hamming_comm (a b : BitVec w) : hamming a b = hamming b a := by
  rw [hamming, hamming, BitVec.xor_comm]

theorem hamming_eq_card (a b : BitVec w) :
    hamming a b = ((Finset.range w).filter fun i => a.getLsbD i ≠ b.getLsbD i).card := by
  rw [hamming, List.countP_eq_length_filter, ← List.toFinset_card_of_nodup (List.nodup_range.filter _),
    List.toFinset_filter, List.toFinset_range]
  refine congrArg Finset.card (Finset.filter_congr fun i _ => ?_)
  rw [BitVec.getLsbD_xor, bne_iff_ne]

theorem hamming_triangle (a b c : BitVec w) : hamming a c ≤ hamming a b + hamming b c := by
  simp only [hamming_eq_card]
  refine (Finset.card_le_card fun i hi => ?_).trans (Finset.card_union_le _ _)
  simp only [Finset.mem_union, Finset.mem_filter] at hi ⊢
  obtain ⟨hiw, hac⟩ := hi
  by_cases hab : a.getLsbD i = b.getLsbD i
  · exact .inr ⟨hiw, hab ▸ hac⟩
  · exact .inl ⟨hiw, hab⟩

end distance

/-! ### The codes -/

theorem formatWord_distance (e e' : EccLevel) : ∀ k k' : BitVec 3, (e, k) ≠ (e', k') →
    7 ≤ hamming (formatWord e k.toNat) (formatWord e' k'.toNat) := by
  cases e <;> cases e' <;> decide +kernel

theorem formatWord_data (e : EccLevel) : ∀ k : BitVec 3,
    ((formatWord e k.toNat ^^^ 0x5412) >>> 10).toNat = 8 * eccIndicator e + k.toNat := by
  cases e <;> decide +kernel

theorem formatWord_multiple (e : EccLevel) : ∀ k : BitVec 3, ∃ q, q < 2 ^ 5 ∧
    (formatWord e k.toNat ^^^ 0x5412).toNat = binaryProduct q 0x537 := by
  cases e <;> decide +kernel

theorem versionWord_code : ∀ v ≤ 40, 1 ≤ v → (versionWord v >>> 12).toNat = v ∧
    ∃ q, q < 2 ^ 6 ∧ (versionWord v).toNat = binaryProduct q 0x1F25 := by
  decide +kernel

theorem versionWord_distance : ∀ v ≤ 40, 7 ≤ v → ∀ v' ≤ 40, 7 ≤ v' → v ≠ v' →
    8 ≤ hamming (versionWord v) (versionWord v') := by
  decide +kernel

/-- Words at distance 7 share no word at distance 3 from each (R394). -/
theorem formatWord_nearest {w : BitVec 15} {e e' : EccLevel} {k k' : BitVec 3}
    (hnear : hamming w (formatWord e k.toNat) ≤ 3)
    (hnearer : hamming w (formatWord e' k'.toNat) ≤ hamming w (formatWord e k.toNat)) :
    (e', k') = (e, k) := by
  by_contra hne
  have hapart := formatWord_distance e e' k k' (Ne.symm hne)
  have htriangle := hamming_triangle (formatWord e k.toNat) w (formatWord e' k'.toNat)
  rw [hamming_comm _ w] at htriangle
  omega

end Sys2Proof.Machine
end

section
/-! PROOFS of the family "mask_format": O51. -/

namespace Sys2Proof.Proofs

open Sys2Proof.Machine Sys2Proof.Claims

/-- Settles O51: the words are compared one by one, and the triangle inequality makes the nearest word
unique. -/
theorem informationCodeLaws : Obligations.InformationCodeLaws := by
  unfold Obligations.InformationCodeLaws
  exact ⟨formatWord_distance, formatWord_data, formatWord_multiple,
    fun _ _ _ _ _ => formatWord_nearest, fun v hpos hmax => versionWord_code v hmax hpos,
    fun v v' hv hmax hv' hmax' => versionWord_distance v hmax hv v' hmax' hv'⟩

end Sys2Proof.Proofs
end

section
/-! PROOFS of the family "control". What each stage of ENCODE leaves for the next one, and that its body and
the sequence of its stages end alike (R451, R452). -/

namespace Sys2Proof.Machine

open Sys2Proof.Claims

/-! ### The stages one after another (R452) -/

section stages
variable {i : Instr} {is : List Instr} {s t : State}

/-- A sequence ends with its first command where that raises an error or faults. -/
theorem sequence_cons_of_error {x : Stop} (h : commandBody i s = .error x) :
    sequence (i :: is) s = exec i s := by
  cases x <;> simp [Claims.sequence, exec_eq_finish, h, finish]

theorem State.readBytes_congr (h : t.mem = s.mem) (b : Buf) (off len : Nat) :
    t.readBytes b off len = s.readBytes b off len := by
  induction len generalizing off with
  | zero => rfl
  | succ len ih => simp only [State.readBytes, State.readByte, h, ih]

theorem gridinitBody_completed (h : gridinitBody s = .ok t) :
    gridinitBody (completed s) = .ok (completed t) := by
  obtain ⟨hv, rfl⟩ := gridinitBody_eq_ok.mp h
  exact gridinitBody_eq_ok.mpr ⟨hv, rfl⟩

theorem placeBody_completed (h : placeBody s = .ok t) :
    placeBody (completed s) = .ok (completed t) := by
  obtain ⟨hstamped, hplaced, hcw, hcount, bytes, hread, rfl⟩ := placeBody_eq_ok.mp h
  exact placeBody_eq_ok.mpr ⟨hstamped, hplaced, hcw, hcount, bytes,
    (State.readBytes_congr (by rfl) _ _ _).trans hread, rfl⟩

/-- After a completed command, a command that reads neither STATUS nor the engine does what it did before. -/
theorem sequence_cons_of_completed (h : commandBody i (completed s) = .ok (completed t)) :
    sequence (i :: is) (completed s) = sequence is (completed t) :=
  (sequence_cons_of_ok h :)

theorem sequence_cons_of_staged {ready : GridStat → Bool} {f : State → State}
    (hbody : ∀ s, commandBody i s = staged (ready s.gridstat) (f s))
    (hf : ∀ s, f (completed s) = completed (f s)) (h : commandBody i s = .ok t) :
    sequence (i :: is) (completed s) = sequence is (completed t) := by
  obtain ⟨hready, rfl⟩ := staged_eq_ok.mp (hbody s ▸ h)
  exact sequence_cons_of_stage hbody hf hready

/-- No stage reads STATUS or the engine, so that the stages after the first see no completion. -/
theorem sequence_of_encodeBody (h : encodeBody qrTables s = .ok t) :
    sequence encodeStages s = .next (completed t) := by
  obtain ⟨s₁, h₁, s₂, h₂, s₃, h₃, s₄, h₄, s₅, h₅, h₆⟩ := encodeBody_eq_ok.mp h
  rw [encodeStages, sequence_cons_of_ok (i := .interleave) h₁,
    sequence_cons_of_completed (i := .gridinit) (gridinitBody_completed h₂),
    sequence_cons_of_staged (i := .stampAll) (fun _ => rfl) (fun _ => rfl) h₃,
    sequence_cons_of_completed (i := .place) (placeBody_completed h₄),
    sequence_cons_of_staged (i := .select) (fun _ => rfl) (fun _ => rfl) h₅,
    sequence_cons_of_staged (i := .finalize) (fun _ => rfl) (fun _ => rfl) h₆]
  rfl

end stages

/-! ### INTERLEAVE leaves the codewords that PLACE reads (R262, R354) -/

section codewords
variable {s t : State}

theorem interleaveBody_of_holds {data : List Byte} (hv : legalVersion s.versionNat = true)
    (hcap : s.dlenNat = dataCapacity qrTables s.versionNat s.config.ecl)
    (hlen : data.length = s.dlenNat) (hdata : Holds s .dbuf 0 data) :
    interleaveBody qrTables s = .ok
      { (s.writeBytes .cwbuf 0 (interleaved qrTables s.versionNat s.config.ecl data)).withCapacity qrTables
          s.versionNat s.config.ecl with
        cwlen := BitVec.ofNat 32 (rawCodewords s.versionNat) } :=
  interleaveBody_eq_ok.mpr ⟨hv, hcap.not_gt, hcap.not_lt, data,
    State.readBytes_eq_some.mpr ⟨hlen, hdata⟩, rfl⟩

theorem legalVersion_of_interleaveBody {T : QrTables} (h : interleaveBody T s = .ok t) :
    legalVersion t.versionNat = true := by
  obtain ⟨hv, -, -, data, -, rfl⟩ := interleaveBody_eq_ok.mp h
  exact hv

theorem cwlenNat_of_interleaveBody {T : QrTables} (h : interleaveBody T s = .ok t) :
    t.cwlenNat = rawCodewords t.versionNat := by
  obtain ⟨hv, -, -, data, -, rfl⟩ := interleaveBody_eq_ok.mp h
  obtain ⟨hpos, hmax⟩ := legalVersion_iff.mp hv
  exact Nat.mod_eq_of_lt ((rawCodewords_lt hpos hmax).trans (by decide))

/-- Every codeword that PLACE reads is written: the stream is as long as CWLEN says (R263). -/
theorem readBytes_of_interleaveBody (h : interleaveBody qrTables s = .ok t) :
    ∃ bytes, t.readBytes .cwbuf 0 t.cwlenNat = some bytes := by
  have hcw := cwlenNat_of_interleaveBody h
  obtain ⟨hv, -, -, data, -, rfl⟩ := interleaveBody_eq_ok.mp h
  obtain ⟨hpos, hmax⟩ := legalVersion_iff.mp hv
  refine ⟨interleaved qrTables s.versionNat s.config.ecl data, State.readBytes_eq_some.mpr
    ⟨(length_interleaved (numBlocks_pos _ _ hmax hpos) (eccCodewords_le _ _ hmax) data).trans hcw.symm,
      fun j hj => ?_⟩⟩
  rw [Nat.zero_add]
  exact s.readByte_writeBytes_self hj (interleaved_fits hv _ data)

end codewords

/-! ### The grid ENCODE builds (R301, R325, R354) -/

/-- The state with the grid that GRIDINIT and STAMP_ALL leave. -/
def State.freshStamped (s : State) : State :=
  { s with grid := [], gridstat := GridStat.initial s.config.version }.doStampAll qrTables

/-- The state with a stream of bits placed in its grid, as PLACE does. -/
def State.withPlaced (s : State) (bits : List Bool) : State :=
  { s with
    grid := placeBits (visitOrder s.gridSide) bits s.grid
    gridstat := { s.gridstat with placed := true } }

section grid
variable {s : State}

theorem State.freshStamped_gridstat (s : State) :
    s.freshStamped.gridstat = { encodedStat s.config.version with placed := false, final := false } := by
  rw [State.freshStamped, State.doStampAll_gridstat]
  rfl

theorem State.freshStamped_gverNat (s : State) : s.freshStamped.gverNat = s.versionNat := by
  rw [State.gverNat, State.freshStamped_gridstat]
  rfl

theorem State.freshStamped_mem (s : State) : s.freshStamped.mem = s.mem := State.doStampAll_mem _ _

theorem State.freshStamped_cwlenNat (s : State) : s.freshStamped.cwlenNat = s.cwlenNat :=
  congrArg BitVec.toNat (State.doStampAll_cwlen _ _)

theorem State.freshStamped_grid (s : State) : s.freshStamped.grid =
    stampMany (symbolSize s.versionNat) [] (allStamps qrTables s.versionNat) :=
  State.doStampAll_grid _ _

/-- The Unset modules are as many as PLACE requires (R327, R354). -/
theorem unsetCount_freshStamped (hv : legalVersion s.versionNat = true) :
    unsetCount s.freshStamped.gridSide s.freshStamped.grid = rawDataModules s.versionNat := by
  obtain ⟨hpos, hmax⟩ := legalVersion_iff.mp hv
  rw [State.gridSide, State.freshStamped_gverNat, State.freshStamped_grid]
  exact unsetCount_stampMany_allStamps hpos hmax

theorem placeBody_freshStamped {bytes : List Byte} (hv : legalVersion s.versionNat = true)
    (hcw : s.cwlenNat = rawCodewords s.versionNat)
    (hread : s.readBytes .cwbuf 0 s.cwlenNat = some bytes) :
    placeBody s.freshStamped = .ok (s.freshStamped.withPlaced (streamBits bytes)) := by
  rw [placeBody_eq_ok, State.freshStamped_gridstat, State.freshStamped_gverNat,
    State.freshStamped_cwlenNat, State.readBytes_congr s.freshStamped_mem]
  exact ⟨rfl, Bool.false_ne_true, hcw, unsetCount_freshStamped hv, bytes, hread, rfl⟩

theorem State.stageInv_freshStamped (s : State) : s.freshStamped.StageInv :=
  (State.StageInv.of_blank rfl ⟨rfl, rfl, rfl, rfl, rfl⟩).doStampAll
    (fun hfinal => absurd hfinal Bool.false_ne_true) _

/-- PLACE on a grid with its timing lines stamped and not final, in any state: it reaches every Unset module
(R355). -/
theorem State.StageInv.withPlaced (h : s.StageInv) (htiming : s.gridstat.sTiming = true)
    (hfinal : s.gridstat.final = false) (bits : List Bool) : (s.withPlaced bits).StageInv := by
  have hg := retagged_placeBits (visitOrder s.gridSide) bits s.grid
  refine h.setRetagged hg rfl rfl rfl rfl (by simp) (fun _ r c hr hc => ?_) (by simp [hfinal])
  by_cases hc6 : c = 6
  · exact hg.ne_unset (h.functionTagged r c (hc6 ▸ (h.timingStamped htiming r hr).2))
  · exact placeBits_ne_unset _ _ ((mem_visitOrder_iff rfl).mpr ⟨hr, hc, hc6⟩)

end grid

/-! ### ENCODE after INTERLEAVE (R451) -/

section encode
variable {s s₁ t : State}

/-- No check after those of INTERLEAVE can fail. -/
theorem exists_encodeBody_eq_ok (h : interleaveBody qrTables s = .ok s₁) :
    ∃ t, encodeBody qrTables s = .ok t := by
  have hv := legalVersion_of_interleaveBody h
  obtain ⟨bytes, hread⟩ := readBytes_of_interleaveBody h
  have hplace := placeBody_freshStamped hv (cwlenNat_of_interleaveBody h) hread
  exact ⟨_, encodeBody_eq_ok.mpr ⟨s₁, h, _, gridinitBody_eq_ok.mpr ⟨hv, rfl⟩,
    _, staged_eq_ok.mpr ⟨rfl, rfl⟩, _, hplace,
    _, staged_eq_ok.mpr ⟨rfl, rfl⟩, staged_eq_ok.mpr ⟨rfl, rfl⟩⟩⟩

/-- ENCODE stops as INTERLEAVE does. -/
theorem encodeBody_of_error {x : Stop} (h : interleaveBody qrTables s = .error x) :
    encodeBody qrTables s = .error x := by
  rw [encodeBody, h]
  rfl

/-- What the stages after INTERLEAVE leave of CWBUF, CWLEN and GRIDSTAT. -/
theorem outputs_of_encodeBody (h₁ : interleaveBody qrTables s = .ok s₁)
    (h : encodeBody qrTables s = .ok t) :
    t.mem = s₁.mem ∧ t.cwlen = s₁.cwlen ∧ t.gridstat = encodedStat s₁.config.version := by
  obtain ⟨s₁', h₁', s₂, h₂, s₃, h₃, s₄, h₄, s₅, h₅, h₆⟩ := encodeBody_eq_ok.mp h
  obtain rfl := Except.ok.inj (h₁.symm.trans h₁')
  obtain ⟨-, rfl⟩ := gridinitBody_eq_ok.mp h₂
  obtain ⟨-, rfl⟩ := staged_eq_ok.mp h₃
  obtain ⟨-, -, -, -, bytes, -, rfl⟩ := placeBody_eq_ok.mp h₄
  obtain ⟨-, rfl⟩ := staged_eq_ok.mp h₅
  obtain ⟨-, rfl⟩ := staged_eq_ok.mp h₆
  simp [encodedStat, GridStat.initial]

/-- ENCODE builds its grid afresh, so that the grid meets the stage invariant whatever state it began in. -/
theorem stageInv_of_encodeBody (h : encodeBody qrTables s = .ok t) : t.StageInv := by
  obtain ⟨s₁, -, s₂, h₂, s₃, h₃, s₄, h₄, s₅, h₅, h₆⟩ := encodeBody_eq_ok.mp h
  obtain ⟨-, rfl⟩ := gridinitBody_eq_ok.mp h₂
  obtain ⟨-, rfl⟩ := staged_eq_ok.mp h₃
  obtain ⟨-, -, -, -, bytes, -, rfl⟩ := placeBody_eq_ok.mp h₄
  have hplaced := s₁.stageInv_freshStamped.withPlaced rfl rfl (streamBits bytes)
  exact (hplaced.after_selectBody h₅).after_finalizeBody h₆

end encode

end Sys2Proof.Machine
end

section
/-! PROOFS of the family "control": O56 and O57. -/

namespace Sys2Proof.Proofs

open Sys2Proof.Machine Sys2Proof.Claims

/-- Settles O56: once INTERLEAVE answers, no later stage can fail; where it does not, ENCODE and the sequence
both end as it does. -/
theorem encodeIsItsStages : Obligations.EncodeIsItsStages := by
  unfold Obligations.EncodeIsItsStages
  intro s
  cases hinter : interleaveBody qrTables s with
  | ok s₁ =>
    obtain ⟨u, hbody⟩ := exists_encodeBody_eq_ok hinter
    rw [exec_of_ok (i := .encode) hbody, exec_of_ok (i := .interleave) hinter,
      sequence_of_encodeBody hbody]
    refine ⟨fun t _ => Iff.rfl, fun t herr => ?_, fun f => by simp⟩
    have hne (u : State) : completed u ≠ t := by
      rintro rfl
      exact Bool.false_ne_true herr
    simp [hne]
  | error x =>
    have hencode : exec .encode s = exec .interleave s := by
      rw [exec_eq_finish, exec_eq_finish]
      exact congrArg (finish s) ((encodeBody_of_error hinter).trans hinter.symm)
    rw [hencode, encodeStages, sequence_cons_of_error (i := .interleave) hinter]
    exact ⟨fun _ _ => Iff.rfl, fun _ _ => Iff.rfl, fun _ => Iff.rfl⟩

/-- Settles O57: the state of the stages, whose grid meets the stage invariant and is final; the errors and
the fault are those of INTERLEAVE (O28, O56). -/
theorem encodeResult : Obligations.EncodeResult := by
  unfold Obligations.EncodeResult
  rintro s _ _ rfl rfl
  obtain ⟨-, herror, hfault⟩ := encodeIsItsStages s
  obtain ⟨-, hillegal, hover, hunder, hunwritten⟩ := interleaveResult s _ _ rfl rfl
  refine ⟨fun data hpos hmax hcap hlen hdata => ?_, fun h => (herror _ rfl).mpr (hillegal h),
    fun hpos hmax h => (herror _ rfl).mpr (hover hpos hmax h),
    fun hpos hmax h => (herror _ rfl).mpr (hunder hpos hmax h),
    fun hpos hmax hcap h => (hfault _).mpr (hunwritten hpos hmax hcap h)⟩
  have hinter := interleaveBody_of_holds (legalVersion_iff.mpr ⟨hpos, hmax⟩) hcap hlen hdata
  obtain ⟨t, hbody⟩ := exists_encodeBody_eq_ok hinter
  obtain ⟨hmem, hcwlen, hgridstat⟩ := outputs_of_encodeBody hinter hbody
  have hframe := frame_encodeBody hbody
  obtain ⟨⟨-, -, -, -, -, -, hoverrun⟩, -⟩ := hframe .control (by simp [outputs])
  refine ⟨completed t, exec_of_ok (i := .encode) hbody, sequence_of_encodeBody hbody, rfl, ?_, hgridstat,
    ?_, ?_, hframe .glen (by simp [outputs]), fun r c hr hc => ?_⟩
  · rw [← hoverrun]
    rfl
  · exact (congrArg BitVec.toNat hcwlen).trans (cwlenNat_of_interleaveBody hinter)
  · exact hmem ▸ writtenAt_writeRun s _ _
  · have hside : t.gridSide = 4 * s.config.version.toNat + 17 :=
      congrArg (fun g : GridStat => symbolSize g.gver.toNat) hgridstat
    have hfinal : t.gridstat.final = true := congrArg GridStat.final hgridstat
    exact (stageInv_of_encodeBody hbody).finalLightDark hfinal r c (hside ▸ hr) (hside ▸ hc)

end Sys2Proof.Proofs
end

section
/-! PROOFS of the family "exceptions". The stops of every command: only the errors R502 lists for it, and the
fault of an unwritten byte (R505) only where the command reads a buffer. -/

namespace Sys2Proof.Machine

open Sys2Proof.Claims

/-- The commands that read bytes of a buffer (R67). -/
def bufferReaders : List Instr := [.polyeval, .rsrem, .syndrome, .interleave, .place, .encode]

/-- A stop that R502 or R505 allows a command. -/
def Stop.Allowed (i : Instr) : Stop → Prop
  | .error c => c.code ∈ listedCodes i
  | .fault f => f = .unwrittenBufferByte ∧ i ∈ bufferReaders

/-- A body that stops, if at all, as a command is allowed to. -/
def StopsAllowed (i : Instr) (b : Body) : Prop := ∀ x, b = .error x → x.Allowed i

/-! ### The combinators of bodies -/

section combinators
variable {i : Instr} {c : ErrorCode} {b : Body}

theorem StopsAllowed.ok (t : State) : StopsAllowed i (.ok t) := by
  intro x hx
  cases hx

theorem StopsAllowed.raiseError (hc : c.code ∈ listedCodes i) : StopsAllowed i (raiseError c) := by
  intro x hx
  cases hx
  exact hc

theorem StopsAllowed.guard {p : Prop} [Decidable p] (hc : c.code ∈ listedCodes i)
    (hb : StopsAllowed i b) : StopsAllowed i (if p then Machine.raiseError c else b) := by
  by_cases hp : p
  · exact if_pos hp ▸ .raiseError hc
  · exact if_neg hp ▸ hb

theorem StopsAllowed.require {p : Prop} [Decidable p] (t : State) (hc : c.code ∈ listedCodes i) :
    StopsAllowed i (if p then .ok t else Machine.raiseError c) := by
  by_cases hp : p
  · exact if_pos hp ▸ .ok t
  · exact if_neg hp ▸ .raiseError hc

theorem StopsAllowed.staged {ready : Bool} (t : State) (hcodes : listedCodes i = [6]) :
    StopsAllowed i (staged ready t) :=
  .require t (by simp [hcodes, ErrorCode.code])

theorem StopsAllowed.withBytes {r : Option (List Byte)} {k : List Byte → Body}
    (hi : i ∈ bufferReaders) (hk : ∀ xs, StopsAllowed i (k xs)) : StopsAllowed i (withBytes r k) := by
  cases r with
  | none =>
    intro x hx
    cases hx
    exact ⟨rfl, hi⟩
  | some xs => exact hk xs

end combinators

/-! ### Every command -/

theorem interleaveBody_stopsAllowed (T : QrTables) (s : State) :
    StopsAllowed .interleave (interleaveBody T s) :=
  .guard (by decide) <| .guard (by decide) <| .guard (by decide) <| .withBytes (by decide) fun _ => .ok _

/-- ENCODE may stop in every way INTERLEAVE may. -/
theorem Stop.Allowed.encode {x : Stop} (h : x.Allowed .interleave) : x.Allowed .encode := by
  cases x with
  | error c => exact h
  | fault f => exact ⟨h.1, by decide⟩

/-- Only INTERLEAVE can stop ENCODE: where it answers, so do the stages after it. -/
theorem encodeBody_stopsAllowed (s : State) : StopsAllowed .encode (encodeBody qrTables s) := by
  intro x hx
  cases hinter : interleaveBody qrTables s with
  | ok s₁ =>
    obtain ⟨t, hok⟩ := exists_encodeBody_eq_ok hinter
    cases hok.symm.trans hx
  | error y =>
    cases (encodeBody_of_error hinter).symm.trans hx
    exact (interleaveBody_stopsAllowed qrTables s x hinter).encode

theorem commandBody_stopsAllowed (i : Instr) (s : State) : StopsAllowed i (commandBody i s) := by
  cases i with
  | nop | fmtenc => exact .ok _
  | gfmul | rsgen => exact .guard (by decide) (.ok _)
  | polyeval | syndrome =>
    exact .guard (by decide) <| .guard (by decide) <| .withBytes (by decide) fun _ => .ok _
  | rsrem =>
    exact .guard (by decide) <| .guard (by decide) <| .withBytes (by decide) fun _ =>
      .withBytes (by decide) fun _ => .ok _
  | capq | gridinit | verenc => exact .require _ (by decide)
  | interleave => exact interleaveBody_stopsAllowed qrTables s
  | place =>
    exact .guard (by decide) <| .guard (by decide) <| .guard (by decide) <| .guard (by decide) <|
      .withBytes (by decide) fun _ => .ok _
  | encode => exact encodeBody_stopsAllowed s
  | stampFinder | stampSep | stampTiming | stampAlign | reserveFmt | reserveVer | stampAll
  | maskapply | score | select | fmtwrite | verwrite | finalize => exact .staged _ rfl

end Sys2Proof.Machine
end

section
/-! PROOFS of the family "exceptions": O7 and O8. -/

namespace Sys2Proof.Proofs

open Sys2Proof.Machine Sys2Proof.Claims

/-- Settles O7: an error STATUS records is one the command's body raised. -/
theorem commandsRaiseOnlyListedCodes : Obligations.CommandsRaiseOnlyListedCodes := by
  unfold Obligations.CommandsRaiseOnlyListedCodes
  intro i s t h herr
  obtain ⟨u, -, rfl⟩ | ⟨c, hraise, rfl⟩ := exec_eq_next h
  · exact absurd herr Bool.false_ne_true
  · exact commandBody_stopsAllowed i s (.error c) hraise

/-- Settles O8: completion adds no fault to those of the command's body, and never refuses. -/
theorem commandsStopOnlyOnUnwrittenBytes : Obligations.CommandsStopOnlyOnUnwrittenBytes := by
  unfold Obligations.CommandsStopOnlyOnUnwrittenBytes
  intro i s
  rw [exec_eq_finish]
  exact ⟨fun f h => commandBody_stopsAllowed i s (.fault f) (finish_eq_fault h),
    finish_ne_refused s (commandBody i s)⟩

end Sys2Proof.Proofs
end

section
/-! PROOFS of the family "reset and hazards". What stands right after reset. -/

namespace Sys2Proof.Machine

/-- Right after reset ID reads its constant and every other register 0 (R54, R550). -/
theorem State.readReg_reset (r : Reg) : State.reset.readReg r = if r = .id then 0x51520007 else 0 := by
  cases r with
  | pen k =>
    have hpen : ∀ j : BitVec 3, State.reset.penAt j = 0 := by decide
    exact hpen k
  | _ => rfl

/-- No buffer byte is written right after reset (R68, R550). -/
@[simp] theorem State.readByte_reset (b : Buf) (i : Nat) : State.reset.readByte b i = none :=
  ite_self none

/-- A reset leaves the block as it is right after reset (R550). -/
@[simp] theorem State.resetBlock_reset : State.reset.resetBlock = State.reset := rfl

/-- A reset is the environment's move in every state, Busy or Idle (R551). -/
theorem step_of_resetMove {s : State} {rest : List Move} (h : s.inputs = .reset :: rest) :
    step s = .next { s with inputs := rest }.resetBlock :=
  step_of_move h

end Sys2Proof.Machine
end

section
/-! PROOFS of the family "reset and hazards": O17 and O58. -/

namespace Sys2Proof.Proofs

open Sys2Proof.Machine

/-- Settles O17: what reset leaves of the state before it is the environment's alone. -/
theorem resetState : Obligations.ResetState := by
  unfold Obligations.ResetState
  refine ⟨State.readReg_reset, rfl, State.readByte_reset, Grid.read_nil, fun s rest hreset => ?_⟩
  exact ⟨{ s with inputs := rest }.resetBlock, step_of_resetMove hreset, rfl, rfl⟩

/-- Settles O58: BlockInv holds after any reset, and an empty grid with no stage done meets StageInv. -/
theorem invariantsHoldAtReset : Obligations.InvariantsHoldAtReset := by
  unfold Obligations.InvariantsHoldAtReset
  have hblock : State.reset.BlockInv := State.resetBlock_reset ▸ State.BlockInv.resetBlock State.reset
  have hstage : State.reset.StageInv := .of_blank rfl ⟨rfl, rfl, rfl, rfl, rfl⟩
  exact ⟨hblock, hstage⟩

end Sys2Proof.Proofs
end
